-- ==== Sys2Proof/Word.lean ====
section
/-! DEFINITION. The word types of the part: bytes, 16-bit and 32-bit words, and the numbers that name lanes, slots and table entries. -/

namespace Sys2Proof

/-- A byte of a frame. -/
abbrev Byte := BitVec 8

/-- A 16-bit quantity that wraps or is read bit by bit (sequence numbers, CRCs, masks, the epoch). -/
abbrev Word16 := BitVec 16

/-- A 32-bit quantity that wraps or names (counts of time, sensor identifiers). -/
abbrev Word32 := BitVec 32

/-- A receive lane, 0 to 3. -/
abbrev Lane := Fin 4

/-- A position in the Bin Table, 0 to 8191. -/
abbrev Slot := Fin 8192

/-- A filter, layout, class or curve page number, 0 to 15. -/
abbrev Index16 := Fin 16

/-- A Visit List bucket number, 0 to 62. -/
abbrev Bucket := Fin 63

/-- The identifiers 0 and FFFFFFFF hex are not valid (00_scope.md, "identifier"). -/
def validIdentifier (id : Word32) : Bool := id != 0 && id != 0xFFFFFFFF

end Sys2Proof
end

