-- ==== Sys2Proof/Config.lean ====
section
/-! DEFINITION. The sizes and constants that the manual fixes for the part. The spec leaves no value open, so no constant here is free. -/

namespace Sys2Proof.Config

/-- Places of a lane FIFO (R6). -/
abbrev laneFifoDepth : Nat := 8
/-- Frame length limits of a radio frame, FCS included (R3, R141). -/
abbrev minFrame : Nat := 4
abbrev maxFrame : Nat := 64
/-- The saturation of a lane's runs (R11). -/
abbrev maxRun : Nat := 15
/-- Checked frames below which an interval is never DEGRADED (R11). -/
abbrev busyFrames : Nat := 16
/-- The longest cascade chain that LOAD_FILTER admits (R21). -/
abbrev maxChain : Nat := 4
/-- Places of the Recent Copy Set (R37). -/
abbrev copySetSize : Nat := 128
/-- Places of the Discovery List (R60). -/
abbrev discoverySize : Nat := 64
/-- The largest fill, in per mille (00_scope.md, "per mille"). -/
abbrev maxFill : Nat := 1000
/-- A kernel coefficient of 16384 stands for 1 (05, section 5.3). -/
abbrev kernelOne : Int := 16384
/-- Places of the Downlink Request Queue (R135). -/
abbrev requestQueueSize : Nat := 32
/-- Places of the Downlink Frame FIFO (R141). -/
abbrev downlinkFifoDepth : Nat := 8
/-- Milliseconds after which an unanswered send is aborted (R143). -/
abbrev transmitTimeoutMs : Word32 := 4000
/-- Places of the Notice Queue (R149). -/
abbrev noticeQueueSize : Nat := 512
/-- Notices a digest carries at most (R153). -/
abbrev digestMax : Nat := 20
/-- The saturation of a notice's hold age (R150). -/
abbrev maxHoldAge : Nat := 60
/-- Places of the Response FIFO (R157). -/
abbrev responseFifoDepth : Nat := 4
/-- Places of the Forward FIFO (R155). -/
abbrev forwardFifoDepth : Nat := 16
/-- The saturation of the starvation count (R159). -/
abbrev maxStarvation : Nat := 32
/-- Places of the Request FIFO (R165). -/
abbrev requestFifoDepth : Nat := 4
/-- Length limits of an ingress frame (R188). -/
abbrev minEnvelope : Nat := 5
abbrev maxEnvelope : Nat := 1029
/-- Maximum of a global counter and of a tally (R180). -/
abbrev max32 : Nat := 4294967295
/-- Maximum of a per-bin counter (R180). -/
abbrev max16 : Nat := 65535
/-- Saturation of the missed-interval figure (R120). -/
abbrev maxMissed : Nat := 63
/-- Saturation of the recovery count (R124). -/
abbrev maxRecovery : Nat := 15
/-- Saturation of the identity runs (R64, R65). -/
abbrev maxIdentityRun : Nat := 3
/-- Advances of the Millisecond Count in one of the Second Count (R168). -/
abbrev msPerSecond : Nat := 1000
/-- The part code and the revision that IDENTIFY returns (R174). -/
abbrev partCode : Nat := 8160
abbrev revision : Nat := 1
/-- The re-measure frame's command MEASURE_AGAIN (R191). -/
abbrev measureAgain : Byte := 0x01

end Sys2Proof.Config
end

