-- ==== Sys2Proof/Syntax.lean ====
section
/-! DEFINITION. The commands of the part: one constructor per row of spec/opcode_table.json. The 22 management requests and BAD_COMMAND_REQUEST are the Management Unit's taking of the request at the head of the Request FIFO (R166): tag and parameters stand in that entry, so the command has no operand of its own (assumption 3). -/

namespace Sys2Proof

/-- One event or request of the part. -/
inductive Instr where
  /-- R1: a frame ends on a lane, with the RSSI delivered and all the bytes between its markers. -/
  | frameArrival (lane : Lane) (rssi : Word16) (bytes : List Byte)
  /-- R11: a lane judges the interval whose end was announced. -/
  | laneIntervalEnd (lane : Lane)
  /-- R18: the Frame Classifier takes a frame. -/
  | take
  /-- R43: the entry of this identifier and sequence reaches its expiry. -/
  | copyExpiry (identifier : Word32) (sequence : Word16)
  /-- R136: the slot's re-measure entry becomes DUE. -/
  | entryDue (slot : Slot)
  /-- R137: the slot's DUE entry expires at its close. -/
  | entryExpiry (slot : Slot)
  /-- R139: the transmit arbiter hands a DUE entry's frame over. -/
  | reMeasureHandover
  /-- R140: the transmit arbiter hands a pass-through frame over. -/
  | passThroughHandover
  /-- R142: the modulator reports the send done. -/
  | txDone
  /-- R142: the modulator reports the send failed. -/
  | txFail
  /-- R143: a send without an answer is aborted. -/
  | transmitTimeout
  /-- R188: a whole frame ends on the backhaul ingress. -/
  | ingressFrame (bytes : List Byte)
  /-- R174. -/
  | identify
  /-- R169. -/
  | start
  /-- R170. -/
  | stop
  /-- R171. -/
  | restart
  /-- R172. -/
  | setTime
  /-- R173. -/
  | setParams
  /-- R52, R53. -/
  | provision
  /-- R54. -/
  | retire
  /-- R55, R56. -/
  | setAdmin
  /-- R102. -/
  | confirmVisit
  /-- R73. -/
  | loadClass
  /-- R73. -/
  | readClass
  /-- R75. -/
  | loadCurve
  /-- R76. -/
  | loadKernel
  /-- R21. -/
  | loadFilter
  /-- R29. -/
  | loadLayout
  /-- R175. -/
  | readBin
  /-- R176. -/
  | readBinRange
  /-- R112. -/
  | readVisitList
  /-- R177. -/
  | readDiscovery
  /-- R178, R184. -/
  | readCounters
  /-- R152. -/
  | flushDigest
  /-- R168: the Second Count advances. -/
  | secondAdvance
  /-- R118: a sweep pass starts, at the advance of the Second Count that brings the pass timer to P. -/
  | passStart
  /-- R119, R120: the sweep reaches its next slot. -/
  | sweepVisit
  /-- R181, R183: a statistics interval ends, at the advance of the Second Count that brings the interval timer to S. -/
  | intervalEnd
  /-- R151: the head notice's hold age reaches H. -/
  | digestHoldDue
  /-- R157: the Egress Arbiter grants the Response FIFO. -/
  | responseGrant
  /-- R153: the Egress Arbiter grants the Digest Builder. -/
  | digestGrant
  /-- R156: the Egress Arbiter grants the Forward FIFO. -/
  | forwardGrant
  /-- R160: the backhaul link has taken the frame in send. -/
  | egressDone
  /-- R179: the reset pin. -/
  | powerOnReset
  /-- R1: a second start marker abandons the frame in delivery on a lane. -/
  | secondStartMarker (lane : Lane)
  /-- R167: a request whose command code names no command. -/
  | badCommandRequest
  deriving DecidableEq, Repr

end Sys2Proof
end

