-- ==== Sys2Proof/WellFormed.lean ====
section
/-! DEFINITION. Which commands are well formed. Lanes and slots are bounded by their types; frames of any length and any delivered RSSI can reach a lane or the ingress (R1, R188). What is left to check is that COPY_EXPIRY names an entry by a valid identifier (03, section 3.1). -/

namespace Sys2Proof

/-- The well-formedness check of a command. -/
def Instr.wellFormed : Instr → Bool
  | .copyExpiry identifier _ => validIdentifier identifier
  | _ => true

end Sys2Proof
end

