-- ==== Sys2Proof/Machine/Bytes.lean ====
section
/-! DEFINITION. Numbers, times and bytes: saturation, the modulo comparison of times, the CRC, and the byte order of every format that crosses the part's interfaces (00_scope.md; 12). -/

namespace Sys2Proof.Machine

/-- A counter raised by `k`, left at its maximum (R180). -/
def satAdd (max k n : Nat) : Nat := min max (n + k)

/-- A value moved to the nearer limit of a range. -/
def clampNat (lo hi n : Nat) : Nat := max lo (min hi n)

/-- "A is at or after B": (A − B) mod 2^32 is less than 2^31 (00_scope.md, "Time"). -/
def atOrAfter (a b : Word32) : Bool := decide ((a - b).toNat < 2147483648)

/-- "A is before B" (00_scope.md, "Time"). -/
def before (a b : Word32) : Bool := !atOrAfter a b

/-! ### The CRC (00_scope.md, "The CRC") -/

/-- One shift of the CRC register with generator x^16 + x^12 + x^5 + 1. -/
def crcShift (reg : Word16) : Word16 :=
  if reg.msb then (reg <<< 1) ^^^ 0x1021 else reg <<< 1

/-- A byte taken into the register, most significant bit first. -/
def crcByte (reg : Word16) (b : Byte) : Word16 :=
  crcShift (crcShift (crcShift (crcShift (crcShift (crcShift (crcShift (crcShift (reg ^^^ (b.setWidth 16 <<< 8)))))))))

/-- The CRC of a run of bytes: register FFFF hex at the start, no final inversion. -/
def crc (bytes : List Byte) : Word16 := bytes.foldl crcByte 0xFFFF

/-! ### Packing, most significant byte first (R189) -/

/-- A number in 1 byte. -/
def pack8 (n : Nat) : List Byte := [BitVec.ofNat 8 n]

/-- A number in 2 bytes. -/
def pack16 (n : Nat) : List Byte := [BitVec.ofNat 8 (n / 256), BitVec.ofNat 8 n]

/-- A number in 4 bytes. -/
def pack32 (n : Nat) : List Byte :=
  [BitVec.ofNat 8 (n / 16777216), BitVec.ofNat 8 (n / 65536), BitVec.ofNat 8 (n / 256), BitVec.ofNat 8 n]

/-- A signed number in 1 byte, two's complement. -/
def packInt8 (i : Int) : List Byte := pack8 (BitVec.ofInt 8 i).toNat

/-- A signed number in 2 bytes, two's complement. -/
def packInt16 (i : Int) : List Byte := pack16 (BitVec.ofInt 16 i).toNat

/-- A two-valued switch: 1 for ON, YES and SET, 0 for OFF, NO and CLEAR. -/
def packFlag (b : Bool) : List Byte := pack8 (if b then 1 else 0)

/-- A field that may be absent: a presence byte, then the value, or zero bytes in its place. -/
def packOpt (width : Nat) (pack : α → List Byte) : Option α → List Byte
  | some v => pack8 1 ++ pack v
  | none => pack8 0 ++ List.replicate width 0

/-! ### Reading, most significant byte first -/

/-- The byte at a position, 0 beyond the end. -/
def read8 (bytes : List Byte) (i : Nat) : Nat := (bytes.getD i 0).toNat

/-- The 2-byte number at a position. -/
def read16 (bytes : List Byte) (i : Nat) : Nat := 256 * read8 bytes i + read8 bytes (i + 1)

/-- The 4-byte number at a position. -/
def read32 (bytes : List Byte) (i : Nat) : Nat := 65536 * read16 bytes i + read16 bytes (i + 2)

/-- The signed byte at a position. -/
def readInt8 (bytes : List Byte) (i : Nat) : Int := (BitVec.ofNat 8 (read8 bytes i)).toInt

/-- The signed 2-byte number at a position. -/
def readInt16 (bytes : List Byte) (i : Nat) : Int := (BitVec.ofNat 16 (read16 bytes i)).toInt

end Sys2Proof.Machine
end

