-- ==== Sys2Proof/Machine/State.lean ====
section
/-! DEFINITION. The state of the part, block by block as the block overview of 00_scope.md lists them, and its value after power-on reset. Fields that the manual does not name are marked "model" with their assumption. -/

namespace Sys2Proof.Machine

/-! ### Named values -/

/-- Lane health (01, section 1.1). -/
inductive Health where
  | normal | degraded | mute
  deriving DecidableEq, Repr

/-- The class of a closed interval (R11). -/
inductive IntervalClass where
  | quiet | degraded | errored | clean
  deriving DecidableEq, Repr

/-- The FCS policy and the LENGTH policy (R5, R31). -/
inductive MarkPolicy where
  | drop | forwardMarked
  deriving DecidableEq, Repr

/-- The default action (R26). -/
inductive DefaultAction where
  | forward | discard
  deriving DecidableEq, Repr

/-- The RANGE policy (R81). -/
inductive RangePolicy where
  | drop | mark
  deriving DecidableEq, Repr

/-- A filter's action (02, section 2.2). -/
inductive FilterAction where
  | binReport | binReportAndForward | forward | discard
  deriving DecidableEq, Repr

/-- Byte order of a field (02, section 2.5). -/
inductive ByteOrder where
  | big | little
  deriving DecidableEq, Repr

/-- Measure kind (02, section 2.5). -/
inductive MeasureKind where
  | tofUs | distMm
  deriving DecidableEq, Repr

/-- Why a record is forwarded marked (09, section 9.4). -/
inductive Mark where
  | none | fcsBad | length
  deriving DecidableEq, Repr

/-- Admin state of a slot (R51). -/
inductive Admin where
  | free | active | suspended
  deriving DecidableEq, Repr

/-- Fill band (chapter 6). -/
inductive Band where
  | low | near | full
  deriving DecidableEq, Repr

/-- Reporting state (R117). -/
inductive Liveness where
  | awaiting | reporting | late | silent | recovering
  deriving DecidableEq, Repr

/-- Identity state (R64, R65). -/
inductive Identity where
  | matched | mismatched
  deriving DecidableEq, Repr

/-- Sensor state (R133). -/
inductive SensorState where
  | normal | suspect
  deriving DecidableEq, Repr

/-- Cause of a wanted re-measure (R132). -/
inductive Trigger where
  | rise | range | pending
  deriving DecidableEq, Repr

/-- State of a re-measure entry (R135). -/
inductive EntryState where
  | waiting | due
  deriving DecidableEq, Repr

/-- Response status (10, section 10.2). -/
inductive Status where
  | ok | clamped | badCommand | badLength | badParam | notFound | exists | noSlot | directoryFull | wrongState
  deriving DecidableEq, Repr

/-- Cause of a COLLECTED notice (R85). -/
inductive CollectCause where
  | visit | drop
  deriving DecidableEq, Repr

/-- Cause of a LIVENESS notice (R122). -/
inductive LivenessCause where
  | visit | arrival
  deriving DecidableEq, Repr

/-- Condition of an EVENT notice (R70). -/
inductive SensorEvent where
  | lid | tilt | shatter | heat | restart
  deriving DecidableEq, Repr

/-- Change of an EVENT notice (R70). -/
inductive EventChange where
  | set | cleared | occurred
  deriving DecidableEq, Repr

/-! ### Lane Receivers -/

/-- An entry of a lane FIFO (01, section 1.1). -/
structure LaneFrame where
  bytes : List Byte
  rssi : Int
  arrival : Word32
  deriving DecidableEq, Repr

/-- One Lane Receiver (01, section 1.1). -/
structure LaneState where
  fifo : List LaneFrame
  health : Health
  quietRun : Nat
  degradedRun : Nat
  cleanRun : Nat
  frameTally : Nat
  errorTally : Nat
  /-- Model: an interval end announced by R183 waits for the lane's own event (assumption 4). -/
  announced : Bool
  deriving DecidableEq, Repr

/-! ### Frame Classifier -/

/-- A filter of the Pattern Filter Table (02, section 2.2); position i of the mask is bit i (R189). -/
structure Filter where
  enable : Bool
  offset : Nat
  mask : Word16
  signature : Word16
  lastCheck : Bool
  lastValue : Byte
  cascade : Bool
  action : FilterAction
  layout : Index16
  deriving DecidableEq, Repr

/-- A descriptor of the Layout Table (02, section 2.5). -/
structure Layout where
  idOffset : Nat
  idOrder : ByteOrder
  seqOffset : Nat
  seqOrder : ByteOrder
  measureOffset : Nat
  measureOrder : ByteOrder
  kind : MeasureKind
  temperature : Option Nat
  flags : Option Nat
  lid : Option Nat
  tilt : Option Nat
  restart : Option Nat
  shatter : Option Nat
  deriving DecidableEq, Repr

/-- The Frame Classifier. -/
structure Classifier where
  pointer : Lane
  filters : Vector Filter 16
  layouts : Vector Layout 16
  deriving DecidableEq, Repr

/-! ### Copy Merger -/

/-- An entry of the Recent Copy Set (03, section 3.1). -/
structure CopyEntry where
  identifier : Word32
  sequence : Word16
  expiry : Word32
  deriving DecidableEq, Repr

/-! ### Bin Processor -/

/-- A way of the Bin Directory (04, section 4.1). -/
structure DirWay where
  valid : Bool
  identifier : Word32
  slot : Slot
  deriving DecidableEq, Repr

/-- The ring of stored fills (05, section 5.8). -/
structure Ring where
  cells : Vector Nat 16
  head : Index16
  occupancy : Nat
  deriving DecidableEq, Repr

/-- The ten per-bin counters (04, section 4.2). -/
structure BinCounters where
  received : Nat
  applied : Nat
  merged : Nat
  missedByGap : Nat
  repeats : Nat
  stale : Nat
  mismatches : Nat
  rejected : Nat
  marked : Nat
  collections : Nat
  deriving DecidableEq, Repr

/-- A slot's place on the Visit List (06, section 6.4). -/
structure VisitLinks where
  bucket : Bucket
  position : Nat
  deriving DecidableEq, Repr

/-- A Bin Record (04, section 4.2). -/
structure BinRecord where
  identifier : Word32
  admin : Admin
  cls : Index16
  profileFilter : Index16
  lastSequence : Option Word16
  lastHeard : Word32
  lastArrival : Option Word32
  lanesHeard : BitVec 4
  bestRssi : Option Int
  ring : Ring
  estimate : Option Nat
  lowClamp : Bool
  highClamp : Bool
  candidates : List Band
  band : Band
  bandSince : Word32
  visitMark : Bool
  liveness : Liveness
  missed : Nat
  recovery : Nat
  identity : Identity
  mismatchRun : Nat
  matchRun : Nat
  sensor : SensorState
  attempts : Nat
  pendingFlag : Bool
  lid : Bool
  tilt : Bool
  heat : Bool
  links : Option VisitLinks
  counters : BinCounters
  deriving DecidableEq, Repr

/-- An entry of the Discovery List (04, section 4.5). -/
structure DiscoveryEntry where
  identifier : Word32
  firstHeard : Word32
  lastHeard : Word32
  count : Nat
  filter : Index16
  deriving DecidableEq, Repr

/-- The Bin Processor; way w of directory row r stands at position 4r + w. -/
structure Bins where
  directory : Vector DirWay 16384
  records : Vector BinRecord 8192
  discovery : List DiscoveryEntry
  deriving DecidableEq, Repr

/-! ### Class, Curve and Kernel stores -/

/-- A class descriptor (05, section 5.1). -/
structure ClassDesc where
  loaded : Bool
  curvePage : Index16
  ringLength : Nat
  kernelStart : Nat
  kernelLength : Nat
  median : Bool
  maxRise : Nat
  collectDrop : Nat
  collectFloor : Nat
  nearOn : Nat
  fullOn : Nat
  hysteresis : Nat
  nC : Nat
  kC : Nat
  minDistance : Nat
  maxDistance : Nat
  reportInterval : Nat
  lateCount : Nat
  silentCount : Nat
  recoverCount : Nat
  reMeasure : Bool
  rxDelay : Nat
  windowLength : Nat
  maxAttempts : Nat
  heatThreshold : Int
  lateNotice : Bool
  deriving DecidableEq, Repr

/-- A curve page (05, section 5.2). -/
structure CurvePage where
  origin : Nat
  exponent : Nat
  points : Vector Nat 33
  deriving DecidableEq, Repr

/-- The Class Table, the Curve Store and the Kernel Store. -/
structure Stores where
  classes : Vector ClassDesc 16
  curves : Vector CurvePage 16
  kernel : Vector Int 128
  deriving DecidableEq, Repr

/-! ### Visit List Unit -/

/-- The Visit List (06, section 6.4). -/
structure VisitList where
  full : Vector (List Slot) 63
  near : Vector (List Slot) 63
  fullCount : Nat
  nearCount : Nat
  epoch : Word16
  deriving DecidableEq, Repr

/-! ### Liveness Sweep -/

/-- The Liveness Sweep (07, section 7.2). -/
structure Sweep where
  position : Option Slot
  timer : Option Nat
  /-- Model: the P that the running timer counts (R128, assumption 5). -/
  period : Nat
  deriving DecidableEq, Repr

/-! ### Downlink Scheduler and transmit lane -/

/-- An entry of the Downlink Request Queue (08, section 8.2). -/
structure ReEntry where
  slot : Slot
  identifier : Word32
  opens : Word32
  closes : Word32
  state : EntryState
  deriving DecidableEq, Repr

/-- The kind of the frame being sent, with the slot and identifier of a re-measure frame (08, section 8.3). -/
inductive TxKind where
  | reMeasure (slot : Slot) (identifier : Word32)
  | passThrough
  deriving DecidableEq, Repr

/-- A send on the transmit lane. -/
structure TxSend where
  kind : TxKind
  sendStart : Word32
  /-- Model: the frame in the modulator's hands (assumption 6). -/
  bytes : List Byte
  deriving DecidableEq, Repr

/-- The Downlink Scheduler; the lane is IDLE when `tx` is none. -/
structure Downlink where
  queue : List ReEntry
  frames : List (List Byte)
  tx : Option TxSend
  deriving DecidableEq, Repr

/-! ### Notice Unit and Digest Builder -/

/-- The kind of a notice with its kind-specific fields (R15, R61, R65, R70, R85, R100, R122, R133). -/
inductive NoticeBody where
  | band (old new : Band) (estimate : Nat)
  | collected (oldEstimate : Option Nat) (newFill : Nat) (oldBand : Band) (cause : CollectCause)
  | liveness (old new : Liveness) (missed : Nat) (cause : LivenessCause)
  | identity (old new : Identity) (sampleFilter profileFilter : Index16)
  | sensor (old new : SensorState) (trigger : Option Trigger) (remaining : Nat)
  | event (event : SensorEvent) (change : EventChange) (temperature : Option Int) (oldSequence newSequence : Option Word16)
  | discovered (filter : Index16) (lane : Lane) (rssi : Int)
  | lane (lane : Lane) (old new : Health) (cls : IntervalClass) (frames errors : Nat)
  deriving DecidableEq, Repr

/-- A notice (R148). -/
structure Notice where
  time : Word32
  slot : Option Slot
  identifier : Option Word32
  body : NoticeBody
  deriving DecidableEq, Repr

/-- An entry of the Notice Queue (09, section 9.2). -/
structure QueuedNotice where
  notice : Notice
  holdAge : Nat
  deriving DecidableEq, Repr

/-- The Notice Unit and Digest Builder (09, section 9.2). -/
structure NoticeUnit where
  queue : List QueuedNotice
  lost : Nat
  digestSequence : Word16
  flushPending : Bool
  flushRemaining : Nat
  deriving DecidableEq, Repr

/-! ### Egress Arbiter -/

/-- A forwarded record (09, section 9.4). -/
structure ForwardRecord where
  lane : Lane
  rssi : Int
  arrival : Word32
  mark : Mark
  bytes : List Byte
  deriving DecidableEq, Repr

/-- A management response (R157). -/
structure Response where
  tag : Word16
  code : Byte
  status : Status
  results : List Byte
  deriving DecidableEq, Repr

/-- The Egress Arbiter; the link is IDLE when `link` is none. -/
structure Egress where
  responses : List Response
  forward : List ForwardRecord
  /-- SENDING with the frame in send; the frame's bytes are the model's (assumption 6). -/
  link : Option (List Byte)
  starvation : Nat
  deriving DecidableEq, Repr

/-! ### Management Unit -/

/-- An entry of the Request FIFO (R165). -/
structure Request where
  tag : Word16
  code : Byte
  params : List Byte
  deriving DecidableEq, Repr

/-- The global parameters (10, section 10.5). -/
structure Params where
  laneEnable : Vector Bool 4
  fcsPolicy : MarkPolicy
  thr : Nat
  dOn : Nat
  qOn : Nat
  cOn : Nat
  defaultAction : DefaultAction
  lengthPolicy : MarkPolicy
  copyWindow : Nat
  rangePolicy : RangePolicy
  passPeriod : Nat
  hold : Nat
  starvationLimit : Nat
  interval : Nat
  deriving DecidableEq, Repr

/-- The Management Unit (10, section 10.3). -/
structure Mgmt where
  requests : List Request
  running : Bool
  ms : Word32
  secs : Word32
  /-- Advances of the Millisecond Count since the Second Count last advanced (R168, assumption 4). -/
  phase : Nat
  params : Params
  deriving DecidableEq, Repr

/-! ### Statistics Unit -/

/-- The counters of the LANE group for one lane (11, section 11.1). -/
structure LaneCounters where
  frames : Nat
  runts : Nat
  oversize : Nat
  disabledDrops : Nat
  fifoDrops : Nat
  fcsErrors : Nat
  erroredIntervals : Nat
  severeIntervals : Nat
  deriving DecidableEq, Repr

/-- A lane snapshot; no class is "none" (11, section 11.3). -/
structure Snapshot where
  frames : Nat
  errors : Nat
  cls : Option IntervalClass
  interval : Nat
  deriving DecidableEq, Repr

/-- The global counters of every group but LANE (11, section 11.1). -/
structure Counters where
  matched : Vector Nat 16
  defaultFrames : Nat
  lengthFailures : Nat
  copiesMerged : Nat
  evictions : Nat
  unknowns : Nat
  discoveryOverflows : Nat
  repeats : Nat
  stale : Nat
  restarts : Nat
  mismatches : Nat
  rejected : Nat
  marked : Nat
  collections : Nat
  clamps : Nat
  handed : Nat
  expired : Nat
  failed : Nat
  dropped : Nat
  downlinkDrops : Nat
  notices : Nat
  lostNotices : Nat
  digests : Nat
  forwardDrops : Nat
  managementDrops : Nat
  deriving DecidableEq, Repr

/-- The Statistics Unit (11, section 11.3). -/
structure Stats where
  laneCounters : Vector LaneCounters 4
  counters : Counters
  timer : Nat
  intervalCount : Nat
  lastEnd : Word32
  snapshots : Vector Snapshot 4
  deriving DecidableEq, Repr

/-! ### The part -/

/-- The whole part, one field per block, and the commands that wait. -/
structure State where
  lanes : Vector LaneState 4
  classifier : Classifier
  copies : List CopyEntry
  bins : Bins
  stores : Stores
  visits : VisitList
  sweep : Sweep
  downlink : Downlink
  notices : NoticeUnit
  egress : Egress
  mgmt : Mgmt
  stats : Stats
  pending : List Instr
  deriving DecidableEq, Repr

/-- No event of the part stops it: the type has no constructor. -/
inductive Fault where
  deriving DecidableEq, Repr

/-- Why a command is refused. -/
inductive Refusal where
  /-- Raised by `exec` for a command without a meaning; no arm raises it, since every row has one. Safe. -/
  | notModelled (mnemonic : String)
  deriving DecidableEq, Repr

/-- What a command answers. -/
abbrev Result := Host.Outcome State Fault Refusal

/-! ### Values after power-on reset -/

/-- 01, section 1.1. -/
def LaneState.initial : LaneState :=
  { fifo := [], health := .normal, quietRun := 0, degradedRun := 0, cleanRun := 0, frameTally := 0, errorTally := 0, announced := false }

/-- 02, section 2.2. -/
def Filter.initial : Filter :=
  { enable := false, offset := 0, mask := 0, signature := 0, lastCheck := false, lastValue := 0, cascade := false, action := .forward, layout := 0 }

/-- 02, section 2.5. -/
def Layout.initial : Layout :=
  { idOffset := 0, idOrder := .big, seqOffset := 0, seqOrder := .big, measureOffset := 0, measureOrder := .big, kind := .distMm,
    temperature := none, flags := none, lid := none, tilt := none, restart := none, shatter := none }

/-- 04, section 4.1. -/
def DirWay.initial : DirWay := { valid := false, identifier := 0, slot := 0 }

/-- 04, section 4.2. -/
def BinCounters.zero : BinCounters :=
  { received := 0, applied := 0, merged := 0, missedByGap := 0, repeats := 0, stale := 0, mismatches := 0, rejected := 0, marked := 0,
    collections := 0 }

/-- The ring of a FREE record (04, section 4.2). -/
def Ring.empty : Ring := { cells := Vector.replicate 16 0, head := 0, occupancy := 0 }

/-- A FREE record, the value after power-on reset (04, section 4.2). -/
def BinRecord.free : BinRecord :=
  { identifier := 0, admin := .free, cls := 0, profileFilter := 0, lastSequence := none, lastHeard := 0, lastArrival := none,
    lanesHeard := 0, bestRssi := none, ring := Ring.empty, estimate := none, lowClamp := false, highClamp := false, candidates := [],
    band := .low, bandSince := 0, visitMark := false, liveness := .awaiting, missed := 0, recovery := 0, identity := .matched,
    mismatchRun := 0, matchRun := 0, sensor := .normal, attempts := 0, pendingFlag := false, lid := false, tilt := false, heat := false,
    links := none, counters := BinCounters.zero }

/-- 05, section 5.1. -/
def ClassDesc.initial : ClassDesc :=
  { loaded := false, curvePage := 0, ringLength := 4, kernelStart := 0, kernelLength := 1, median := false, maxRise := 1000,
    collectDrop := 1000, collectFloor := 0, nearOn := 500, fullOn := 800, hysteresis := 0, nC := 1, kC := 1, minDistance := 0,
    maxDistance := 65535, reportInterval := 3600, lateCount := 1, silentCount := 2, recoverCount := 1, reMeasure := false, rxDelay := 100,
    windowLength := 10, maxAttempts := 1, heatThreshold := 127, lateNotice := false }

/-- 05, section 5.2. -/
def CurvePage.initial : CurvePage := { origin := 0, exponent := 3, points := Vector.replicate 33 0 }

/-- 10, section 10.5. -/
def Params.initial : Params :=
  { laneEnable := Vector.replicate 4 true, fcsPolicy := .drop, thr := 103, dOn := 3, qOn := 5, cOn := 3, defaultAction := .forward,
    lengthPolicy := .drop, copyWindow := 400, rangePolicy := .mark, passPeriod := 60, hold := 5, starvationLimit := 8, interval := 60 }

/-- R187. -/
def LaneCounters.zero : LaneCounters :=
  { frames := 0, runts := 0, oversize := 0, disabledDrops := 0, fifoDrops := 0, fcsErrors := 0, erroredIntervals := 0, severeIntervals := 0 }

/-- R187. -/
def Counters.zero : Counters :=
  { matched := Vector.replicate 16 0, defaultFrames := 0, lengthFailures := 0, copiesMerged := 0, evictions := 0, unknowns := 0,
    discoveryOverflows := 0, repeats := 0, stale := 0, restarts := 0, mismatches := 0, rejected := 0, marked := 0, collections := 0,
    clamps := 0, handed := 0, expired := 0, failed := 0, dropped := 0, downlinkDrops := 0, notices := 0, lostNotices := 0, digests := 0,
    forwardDrops := 0, managementDrops := 0 }

/-- 11, section 11.3. -/
def Snapshot.initial : Snapshot := { frames := 0, errors := 0, cls := none, interval := 0 }

/-- The part right after power-on reset (R17, R36, R47, R72, R77, R115, R130, R146, R163, R179, R187), with no command waiting. -/
def State.reset : State :=
  { lanes := Vector.replicate 4 LaneState.initial
    classifier := { pointer := 3, filters := Vector.replicate 16 Filter.initial, layouts := Vector.replicate 16 Layout.initial }
    copies := []
    bins := { directory := Vector.replicate 16384 DirWay.initial, records := Vector.replicate 8192 BinRecord.free, discovery := [] }
    stores := { classes := Vector.replicate 16 ClassDesc.initial, curves := Vector.replicate 16 CurvePage.initial,
                kernel := Vector.replicate 128 0 }
    visits := { full := Vector.replicate 63 [], near := Vector.replicate 63 [], fullCount := 0, nearCount := 0, epoch := 0 }
    sweep := { position := none, timer := none, period := 60 }
    downlink := { queue := [], frames := [], tx := none }
    notices := { queue := [], lost := 0, digestSequence := 0, flushPending := false, flushRemaining := 0 }
    egress := { responses := [], forward := [], link := none, starvation := 0 }
    mgmt := { requests := [], running := false, ms := 0, secs := 0, phase := 0, params := Params.initial }
    stats := { laneCounters := Vector.replicate 4 LaneCounters.zero, counters := Counters.zero, timer := 0, intervalCount := 0,
               lastEnd := 0, snapshots := Vector.replicate 4 Snapshot.initial }
    pending := [] }

end Sys2Proof.Machine
end

