-- ==== Sys2Proof/Machine/Ops.lean ====
section
/-! DEFINITION. The named operations that the blocks share: reaching a lane, a Bin Record, a class or a counter; handing over a notice, a forwarded record or a response; the Bin Directory's lookup. -/

namespace Sys2Proof.Machine

/-! ### Records, classes, lanes and counters -/

/-- The Bin Record of a slot. -/
def State.record (s : State) (i : Slot) : BinRecord := s.bins.records[i]

/-- The slot's record replaced. -/
def State.setRecord (s : State) (i : Slot) (r : BinRecord) : State :=
  { s with bins := { s.bins with records := s.bins.records.set i r } }

/-- The slot's record changed. -/
def State.modRecord (s : State) (i : Slot) (f : BinRecord → BinRecord) : State := s.setRecord i (f (s.record i))

/-- A change made to every Bin Record at one event. -/
def State.mapRecords (s : State) (f : BinRecord → BinRecord) : State :=
  { s with bins := { s.bins with records := ⟨⟨s.bins.records.toList.map f⟩, by simp⟩ } }

/-- The class descriptor of a number. -/
def State.classDesc (s : State) (c : Index16) : ClassDesc := s.stores.classes[c]

/-- The class descriptor that a slot's record names. -/
def State.classOf (s : State) (i : Slot) : ClassDesc := s.classDesc (s.record i).cls

/-- A lane changed. -/
def State.modLane (s : State) (l : Lane) (f : LaneState → LaneState) : State :=
  { s with lanes := s.lanes.set l (f s.lanes[l]) }

/-- A change made to every lane at one event. -/
def mapLanes (v : Vector LaneState 4) (f : LaneState → LaneState) : Vector LaneState 4 := ⟨⟨v.toList.map f⟩, by simp⟩

/-- A lane's global counters changed. -/
def State.modLaneCounters (s : State) (l : Lane) (f : LaneCounters → LaneCounters) : State :=
  { s with stats := { s.stats with laneCounters := s.stats.laneCounters.set l (f s.stats.laneCounters[l]) } }

/-- The other global counters changed. -/
def State.modCounters (s : State) (f : Counters → Counters) : State :=
  { s with stats := { s.stats with counters := f s.stats.counters } }

/-- The slot's per-bin counters changed. -/
def State.modBinCounters (s : State) (i : Slot) (f : BinCounters → BinCounters) : State :=
  s.modRecord i fun r => { r with counters := f r.counters }

/-- A global counter's increment (R180). -/
def inc32 (n : Nat) : Nat := satAdd Config.max32 1 n

/-- A per-bin counter's increment (R180). -/
def inc16 (n : Nat) : Nat := satAdd Config.max16 1 n

/-! ### Notices (R149) -/

/-- A notice taken by the Notice Unit: it joins the tail of the queue, or is lost and counted at a full one. -/
def State.notify (s : State) (n : Notice) : State :=
  if s.notices.queue.length < Config.noticeQueueSize then
    { s with
      notices := { s.notices with queue := s.notices.queue ++ [{ notice := n, holdAge := 0 }] }
      stats := { s.stats with counters := { s.stats.counters with notices := inc32 s.stats.counters.notices } } }
  else
    { s with
      notices := { s.notices with lost := satAdd Config.max16 1 s.notices.lost }
      stats := { s.stats with counters := { s.stats.counters with lostNotices := inc32 s.stats.counters.lostNotices } } }

/-- A notice about a slot, with the Second Count at the event and the identifier of the record (R148). -/
def State.notifySlot (s : State) (i : Slot) (body : NoticeBody) : State :=
  s.notify { time := s.mgmt.secs, slot := some i, identifier := some (s.record i).identifier, body := body }

/-! ### Forwarded records (R155) -/

/-- A record handed to the Forward FIFO: it joins the tail, or is dropped and counted at a full one. -/
def State.forwardJoin (s : State) (r : ForwardRecord) : State :=
  if s.egress.forward.length < Config.forwardFifoDepth then
    { s with egress := { s.egress with forward := s.egress.forward ++ [r] } }
  else
    { s with stats := { s.stats with counters := { s.stats.counters with forwardDrops := inc32 s.stats.counters.forwardDrops } } }

/-! ### Responses (R157, R166) -/

/-- A response placed at the tail of the Response FIFO, echoing the request's tag and command code. -/
def State.respond (s : State) (q : Request) (status : Status) (results : List Byte) : State :=
  { s with egress := { s.egress with
      responses := s.egress.responses ++ [{ tag := q.tag, code := q.code, status := status, results := results }] } }

/-! ### The Bin Directory (R49, R50) -/

/-- The directory row of an identifier. -/
def dirRow (id : Word32) : Nat :=
  (id.toNat % 4096) ^^^ (id.toNat / 4096 % 4096) ^^^ (id.toNat / 16777216)

theorem dirRow_lt (id : Word32) : dirRow id < 4096 := by
  have h := id.isLt
  have h1 : id.toNat % 4096 < 2 ^ 12 := by omega
  have h2 : id.toNat / 4096 % 4096 < 2 ^ 12 := by omega
  have h3 : id.toNat / 16777216 < 2 ^ 12 := by omega
  exact Nat.xor_lt_two_pow (Nat.xor_lt_two_pow h1 h2) h3

/-- The place of way w of an identifier's row. -/
def wayIndex (id : Word32) (w : Fin 4) : Fin 16384 :=
  ⟨4 * dirRow id + w.val, by have := dirRow_lt id; omega⟩

/-- The way of the identifier's row that is valid and holds it, the lowest-numbered first. -/
def State.findWay (s : State) (id : Word32) : Option (Fin 16384) :=
  ((List.finRange 4).map (wayIndex id)).find? fun k => s.bins.directory[k].valid && s.bins.directory[k].identifier == id

/-- The lookup of an identifier: the slot it is provisioned in, or none when it is unknown. -/
def State.lookup (s : State) (id : Word32) : Option Slot :=
  (s.findWay id).map fun k => s.bins.directory[k].slot

/-- The lowest-numbered way of the identifier's row that is not valid. -/
def State.freeWay (s : State) (id : Word32) : Option (Fin 16384) :=
  ((List.finRange 4).map (wayIndex id)).find? fun k => !s.bins.directory[k].valid

/-- The lowest-numbered FREE slot at or above `k`, looking at `fuel` slots. -/
def State.freeSlotFrom (s : State) : (fuel k : Nat) → Option Slot
  | 0, _ => none
  | fuel + 1, k =>
    if h : k < 8192 then
      if (s.record ⟨k, h⟩).admin = .free then some ⟨k, h⟩ else s.freeSlotFrom fuel (k + 1)
    else none

/-- The lowest-numbered FREE slot (R53). -/
def State.freeSlot (s : State) : Option Slot := s.freeSlotFrom 8192 0

end Sys2Proof.Machine
end

