-- ==== Sys2Proof/Machine/Lanes.lean ====
section
/-! DEFINITION. Chapter 1: arrivals on the receive lanes, the frame check, the lane FIFO, and a lane's part of a statistics interval end. -/

namespace Sys2Proof.Machine

/-! ### Arrivals (R1 to R6) -/

/-- The delivered RSSI brought into −150 to 0 dBm (R1). -/
def laneRssi (delivered : Word16) : Int := max (-150) (min 0 delivered.toInt)

/-- The frame check: the CRC of all bytes but the last two equals the last two, high byte first (R4). -/
def frameCheck (bytes : List Byte) : Bool :=
  (crc (bytes.take (bytes.length - 2))).toNat == read16 bytes (bytes.length - 2)

/-- A frame that passes the check joins its lane FIFO, or is a FIFO drop at a full one (R6). -/
def State.joinLane (s : State) (l : Lane) (f : LaneFrame) : State :=
  if s.lanes[l].fifo.length < Config.laneFifoDepth then
    s.modLane l fun x => { x with fifo := x.fifo ++ [f] }
  else
    s.modLaneCounters l fun c => { c with fifoDrops := inc32 c.fifoDrops }

/-- A frame that fails the check, under the FCS policy (R4, R5). -/
def State.fcsFailure (s : State) (l : Lane) (f : LaneFrame) : State :=
  let s := s.modLaneCounters l fun c => { c with fcsErrors := inc32 c.fcsErrors }
  let s := s.modLane l fun x => { x with errorTally := inc32 x.errorTally }
  match s.mgmt.params.fcsPolicy with
  | .drop => s
  | .forwardMarked => s.forwardJoin { lane := l, rssi := f.rssi, arrival := f.arrival, mark := .fcsBad, bytes := f.bytes }

/-- The frame check of a frame of permitted length (R3, R4). -/
def State.checkFrame (s : State) (l : Lane) (f : LaneFrame) : State :=
  let s := s.modLaneCounters l fun c => { c with frames := inc32 c.frames }
  let s := s.modLane l fun x => { x with frameTally := inc32 x.frameTally }
  if frameCheck f.bytes then s.joinLane l f else s.fcsFailure l f

/-- The acceptance steps of an arrival (R1 to R4). -/
def State.arrive (s : State) (l : Lane) (rssi : Int) (bytes : List Byte) : State :=
  if s.mgmt.params.laneEnable[l] = false then
    s.modLaneCounters l fun c => { c with disabledDrops := inc32 c.disabledDrops }
  else if bytes.length < Config.minFrame then
    s.modLaneCounters l fun c => { c with runts := inc32 c.runts }
  else if Config.maxFrame < bytes.length then
    s.modLaneCounters l fun c => { c with oversize := inc32 c.oversize }
  else
    s.checkFrame l { bytes := bytes, rssi := rssi, arrival := s.mgmt.ms }

/-- FRAME_ARRIVAL (R1). -/
def execFrameArrival (lane : Lane) (rssi : Word16) (bytes : List Byte) (s : State) : Result :=
  .next (s.arrive lane (laneRssi rssi) bytes)

/-- SECOND_START_MARKER: the partial frame is an arrival too short to hold a frame check (R1). -/
def execSecondStartMarker (lane : Lane) (s : State) : Result :=
  .next (s.arrive lane 0 [])

/-! ### The interval end at a lane (R11 to R16) -/

/-- The class of an interval with F frames and E errors (R11). -/
def intervalClass (thr frames errors : Nat) : IntervalClass :=
  if frames = 0 then .quiet
  else if Config.busyFrames ≤ frames ∧ thr * frames ≤ errors * 1024 then .degraded
  else if 1 ≤ errors then .errored
  else .clean

/-- The runs brought up to date with the class (R11). -/
def LaneState.updateRuns (x : LaneState) (c : IntervalClass) : LaneState :=
  { x with
    quietRun := if c = .quiet then satAdd Config.maxRun 1 x.quietRun else 0
    degradedRun := if c = .degraded then satAdd Config.maxRun 1 x.degradedRun else 0
    cleanRun := if c = .clean ∨ c = .errored then satAdd Config.maxRun 1 x.cleanRun else 0 }

/-- The health state after a judged interval end, from the runs after the update and the class (R12 to R14). -/
def nextHealth (p : Params) (x : LaneState) (c : IntervalClass) : Health :=
  match x.health with
  | .normal => if p.qOn ≤ x.quietRun then .mute else if p.dOn ≤ x.degradedRun then .degraded else .normal
  | .degraded => if p.qOn ≤ x.quietRun then .mute else if p.cOn ≤ x.cleanRun then .normal else .degraded
  | .mute => if c = .quiet then .mute else if c = .degraded ∧ p.dOn = 1 then .degraded else .normal

/-- The lane's snapshot written by the Statistics Unit at the hand-over (R183). -/
def State.setSnapshot (s : State) (l : Lane) (frames errors : Nat) (c : Option IntervalClass) : State :=
  let snapshot : Snapshot := { frames := frames, errors := errors, cls := c, interval := s.stats.intervalCount }
  { s with stats := { s.stats with snapshots := s.stats.snapshots.set l snapshot } }

/-- The interval counters at a hand-over (R16). -/
def LaneCounters.interval (c : LaneCounters) (k : IntervalClass) : LaneCounters :=
  { c with
    erroredIntervals := if k = .errored ∨ k = .degraded then inc32 c.erroredIntervals else c.erroredIntervals
    severeIntervals := if k = .degraded then inc32 c.severeIntervals else c.severeIntervals }

/-- An enabled lane judges the interval and hands it over (R11 to R16). -/
def State.judgeLane (s : State) (l : Lane) : State :=
  let x := s.lanes[l]
  let c := intervalClass s.mgmt.params.thr x.frameTally x.errorTally
  let y := x.updateRuns c
  let h := nextHealth s.mgmt.params y c
  let s := s.modLane l fun _ => { y with health := h, frameTally := 0, errorTally := 0, announced := false }
  let s := s.modLaneCounters l fun k => k.interval c
  let s := s.setSnapshot l x.frameTally x.errorTally (some c)
  if h = x.health then s
  else s.notify { time := s.mgmt.secs, slot := none, identifier := none, body := .lane l x.health h c x.frameTally x.errorTally }

/-- A disabled lane hands its tallies over for the snapshot, with no class (R8, R16). -/
def State.passLane (s : State) (l : Lane) : State :=
  let x := s.lanes[l]
  (s.modLane l fun y => { y with announced := false }).setSnapshot l x.frameTally x.errorTally none

/-- LANE_INTERVAL_END: taken once for each end announced to the lane (R11, R16, R183). -/
def execLaneIntervalEnd (lane : Lane) (s : State) : Result :=
  .next (
    if s.lanes[lane].announced then
      if s.mgmt.params.laneEnable[lane] then s.judgeLane lane else s.passLane lane
    else s)

end Sys2Proof.Machine
end

