-- ==== Sys2Proof/Machine/Downlink.lean ====
section
/-! DEFINITION. Chapter 8: re-measure requests, the Downlink Request Queue, and the transmit lane with its arbiter. -/

namespace Sys2Proof.Machine

/-! ### The re-measure handling at the Bin Record (R131 to R134) -/

/-- An entry placed in order of open time, after every entry whose open time is at or before its own (R135). -/
def placeEntry (e : ReEntry) : List ReEntry → List ReEntry
  | [] => [e]
  | x :: rest => if before e.opens x.opens then e :: x :: rest else x :: placeEntry e rest

/-- Whether the queue holds an entry of a slot. -/
def Downlink.holds (d : Downlink) (i : Slot) : Bool := d.queue.any fun e => e.slot == i

/-- The slot's pending flag set or cleared. -/
def State.setPending (s : State) (i : Slot) (flag : Bool) : State := s.modRecord i fun r => { r with pendingFlag := flag }

/-- The entry that a request makes: DUE from its making if its open time has come (R134, R136). -/
def State.newEntry (s : State) (i : Slot) : ReEntry :=
  let r := s.record i
  let c := s.classOf i
  let opens := r.lastArrival.getD 0 + BitVec.ofNat 32 c.rxDelay
  { slot := i, identifier := r.identifier, opens := opens, closes := opens + BitVec.ofNat 32 c.windowLength,
    state := if atOrAfter s.mgmt.ms opens then .due else .waiting }

/-- A request for the slot's re-measure (R134). -/
def State.requestReMeasure (s : State) (i : Slot) : State :=
  if s.downlink.holds i then s.setPending i false
  else if Config.requestQueueSize ≤ s.downlink.queue.length then
    (s.modCounters fun c => { c with dropped := inc32 c.dropped }).setPending i true
  else
    { s with downlink := { s.downlink with queue := placeEntry (s.newEntry i) s.downlink.queue } }.setPending i false

/-- A wanted re-measure that finds no attempts left (R133). -/
def State.declareSuspect (s : State) (i : Slot) (cause : Trigger) : State :=
  let r := s.record i
  let s := s.modRecord i fun x => { x with pendingFlag := false, sensor := .suspect }
  if r.sensor = .normal then s.notifySlot i (.sensor .normal .suspect (some cause) 0) else s

/-- The handling of a REJECTED or MARKED outcome with its trigger, if any (R132). -/
def State.unusableReading (s : State) (i : Slot) (trigger : Option Trigger) : State :=
  let r := s.record i
  if trigger.isNone ∧ r.pendingFlag = false then s
  else if (s.classOf i).reMeasure = false then s
  else if r.attempts = 0 then s.declareSuspect i (trigger.getD .pending)
  else s.requestReMeasure i

/-- The restoration at an APPLIED outcome (R131). -/
def State.restore (s : State) (i : Slot) : State :=
  let r := s.record i
  let attempts := (s.classOf i).maxAttempts
  let s := s.modRecord i fun x => { x with attempts := attempts, pendingFlag := false, sensor := .normal }
  if r.sensor = .suspect then s.notifySlot i (.sensor .suspect .normal none attempts) else s

/-! ### The queue's events (R136, R137, R144, R145) -/

/-- The slot's entry changed. -/
def Downlink.modEntry (d : Downlink) (i : Slot) (f : ReEntry → ReEntry) : Downlink :=
  { d with queue := d.queue.map fun e => if e.slot = i then f e else e }

/-- The slot's entry removed (R144). -/
def Downlink.removeEntry (d : Downlink) (i : Slot) : Downlink := { d with queue := d.queue.filter fun e => e.slot != i }

/-- The slot's entry. -/
def Downlink.entry (d : Downlink) (i : Slot) : Option ReEntry := d.queue.find? fun e => e.slot == i

/-- A WAITING entry whose open time has come (R136). -/
def ReEntry.becomesDue (e : ReEntry) (now : Word32) : Bool := e.state == .waiting && atOrAfter now e.opens

/-- A DUE entry whose close time has come (R137). -/
def ReEntry.expires (e : ReEntry) (now : Word32) : Bool := e.state == .due && atOrAfter now e.closes

/-- ENTRY_DUE (R136). -/
def execEntryDue (slot : Slot) (s : State) : Result :=
  .next (
    match s.downlink.entry slot with
    | some e => if e.becomesDue s.mgmt.ms then { s with downlink := s.downlink.modEntry slot fun e => { e with state := .due } } else s
    | none => s)

/-- ENTRY_EXPIRY (R137). -/
def execEntryExpiry (slot : Slot) (s : State) : Result :=
  .next (
    match s.downlink.entry slot with
    | some e =>
      if e.expires s.mgmt.ms then
        let s := { s with downlink := s.downlink.removeEntry slot }
        let s := s.modCounters fun c => { c with expired := inc32 c.expired }
        s.setPending slot true
      else s
    | none => s)

/-- The queue emptied by STOP, each removed entry's slot having its pending flag set (R145). -/
def State.stopQueue (s : State) : State :=
  let s' := { s with downlink := { s.downlink with queue := [] } }
  s.downlink.queue.foldl (fun s e => s.setPending e.slot true) s'

/-! ### The transmit lane (R138 to R143) -/

/-- A DUE entry whose close lies after the Millisecond Count (R138). -/
def ReEntry.candidate (e : ReEntry) (now : Word32) : Bool := e.state == .due && before now e.closes

/-- The candidate with the earliest close, the one standing first where several share it (R138). -/
def earliestClose (now : Word32) : List ReEntry → Option ReEntry
  | [] => none
  | e :: rest =>
    match earliestClose now rest with
    | none => if e.candidate now then some e else none
    | some b => if e.candidate now ∧ atOrAfter b.closes e.closes then some e else some b

/-- The entry that the transmit arbiter would choose at an IDLE lane. -/
def State.txChoice (s : State) : Option ReEntry :=
  match s.downlink.tx with
  | some _ => none
  | none => earliestClose s.mgmt.ms s.downlink.queue

/-- The attempt number of a hand-over (R139). -/
def attemptNumber (maxAttempts remaining : Nat) : Nat := max 1 (maxAttempts + 1 - remaining)

/-- The bytes before a check, followed by their CRC, high byte first. -/
def withCrc (bytes : List Byte) : List Byte := bytes ++ pack16 (crc bytes).toNat

/-- The re-measure frame (R191). -/
def reMeasureFrame (identifier : Word32) (attempt : Nat) : List Byte :=
  withCrc (pack32 identifier.toNat ++ [Config.measureAgain] ++ pack8 attempt)

/-- RE_MEASURE_HANDOVER (R138, R139). -/
def execReMeasureHandover (s : State) : Result :=
  .next (
    match s.txChoice with
    | none => s
    | some e =>
      let attempt := attemptNumber (s.classOf e.slot).maxAttempts (s.record e.slot).attempts
      let send : TxSend :=
        { kind := .reMeasure e.slot e.identifier, sendStart := s.mgmt.ms, bytes := reMeasureFrame e.identifier attempt }
      let s := { s with downlink := { s.downlink.removeEntry e.slot with tx := some send } }
      let s := s.modRecord e.slot fun r => { r with attempts := r.attempts - 1 }
      s.modCounters fun c => { c with handed := inc32 c.handed })

/-- The frame that the arbiter would pass through: the lane IDLE and no DUE candidate (R138). -/
def State.passThroughChoice (s : State) : Option (List Byte) :=
  if s.downlink.tx.isNone ∧ s.txChoice.isNone then s.downlink.frames.head? else none

/-- PASS_THROUGH_HANDOVER (R138, R140). -/
def execPassThroughHandover (s : State) : Result :=
  .next (
    match s.passThroughChoice with
    | none => s
    | some f =>
      let send : TxSend := { kind := .passThrough, sendStart := s.mgmt.ms, bytes := f }
      { s with downlink := { s.downlink with frames := s.downlink.frames.tail, tx := some send } })

/-- The lane returned to IDLE (R142). -/
def State.endSend (s : State) : State := { s with downlink := { s.downlink with tx := none } }

/-- A send that failed or was aborted (R142, R143). -/
def State.sendFailed (s : State) (t : TxSend) : State :=
  let s := s.endSend
  match t.kind with
  | .passThrough => s.modCounters fun c => { c with downlinkDrops := inc32 c.downlinkDrops }
  | .reMeasure i id =>
    let s := s.modCounters fun c => { c with failed := inc32 c.failed }
    if (s.record i).admin = .active ∧ (s.record i).identifier = id then s.setPending i true else s

/-- TX_DONE; ignored at an IDLE lane (R142). -/
def execTxDone (s : State) : Result := .next s.endSend

/-- TX_FAIL; ignored at an IDLE lane (R142). -/
def execTxFail (s : State) : Result :=
  .next (match s.downlink.tx with | none => s | some t => s.sendFailed t)

/-- A send has had no answer for 4000 ms (R143). -/
def State.sendTimedOut (s : State) : Bool :=
  match s.downlink.tx with
  | none => false
  | some t => atOrAfter s.mgmt.ms (t.sendStart + Config.transmitTimeoutMs)

/-- TRANSMIT_TIMEOUT (R143). -/
def execTransmitTimeout (s : State) : Result :=
  .next (match s.downlink.tx with | none => s | some t => if s.sendTimedOut then s.sendFailed t else s)

/-! ### Downlink frames from the host (R141) -/

/-- A radio frame offered to the Downlink Frame FIFO. -/
def State.offerDownlink (s : State) (f : List Byte) : State :=
  if Config.minFrame ≤ f.length ∧ f.length ≤ Config.maxFrame ∧ s.downlink.frames.length < Config.downlinkFifoDepth then
    { s with downlink := { s.downlink with frames := s.downlink.frames ++ [f] } }
  else
    s.modCounters fun c => { c with downlinkDrops := inc32 c.downlinkDrops }

end Sys2Proof.Machine
end

