-- ==== Sys2Proof/Machine/Fill.lean ====
section
/-! DEFINITION. Chapter 5: the arithmetic of the fill computation, from the raw measure to the estimate. Every floor is that of the mathematical quotient, toward minus infinity (00_scope.md, "Names and numbers"): Lean's division of integers by a positive number. -/

namespace Sys2Proof.Machine

/-! ### S1 and S2: distance and range (R78 to R80) -/

/-- The working temperature of S1 (R79). -/
def workingTemperature : Option Int → Int
  | none => 20
  | some t => max (-40) (min 85 t)

/-- S1: the distance in millimetres (R78, R79). -/
def distanceOf (kind : MeasureKind) (raw : Nat) (temperature : Option Int) : Nat :=
  match kind with
  | .distMm => raw
  | .tofUs => (((raw : Int) * (3313 + 6 * workingTemperature temperature) + 10000) / 20000).toNat

/-- The RANGE check fails (R80). -/
def rangeFails (c : ClassDesc) (raw distance : Nat) : Bool :=
  raw == 0 || raw == 65535 || decide (distance < c.minDistance) || decide (c.maxDistance < distance)

/-! ### S3: the curve (R83) -/

/-- The fill of a curve page at a point index. -/
def CurvePage.point (p : CurvePage) (i : Nat) : Nat := p.points.toList.getD i 0

/-- S3: the fill of a distance, rounded to the nearest with halves upward. -/
def curveFill (p : CurvePage) (distance : Nat) : Nat :=
  let x : Int := (distance : Int) - (p.origin : Int)
  let step : Int := 2 ^ p.exponent
  if x < 0 then p.point 0
  else
    let i := (x / step).toNat
    let r := x - (i : Int) * step
    if 32 ≤ i then p.point 32
    else
      let q := ((p.point (i + 1) : Int) - (p.point i : Int)) * r
      ((p.point i : Int) + (2 * q + step) / (2 * step)).toNat

/-! ### The ring (R85, R88) -/

/-- The stored value h_k: the cell at (head − k) mod 16. -/
def Ring.cell (r : Ring) (k : Nat) : Nat :=
  let j : Index16 := r.head - Fin.ofNat 16 k
  r.cells[j]

/-- The stored values, newest first. -/
def Ring.stored (r : Ring) : List Nat := (List.range r.occupancy).map r.cell

/-- S7: the ring trimmed to the class's ring length, then pushed (R88). -/
def Ring.push (r : Ring) (ringLength value : Nat) : Ring :=
  let head : Index16 := r.head + 1
  { cells := r.cells.set head value
    head := head
    occupancy := min (min r.occupancy ringLength + 1) ringLength }

/-- A collection's ring: emptied, the fill alone written as h0 (R85, assumption 8). -/
def Ring.restart (r : Ring) (value : Nat) : Ring :=
  { r with cells := r.cells.set r.head value, occupancy := 1 }

/-! ### S4 to S6: collection, rise and median (R84, R86, R87) -/

/-- S4's fall: a fill at most h0 − collect drop and at most collect floor. -/
def fallCollects (c : ClassDesc) (r : Ring) (fill : Nat) : Bool :=
  decide (1 ≤ r.occupancy) && decide (fill + c.collectDrop ≤ r.cell 0) && decide (fill ≤ c.collectFloor)

/-- S5: the reading is a rise rejection; `before` is the liveness before this operation's arrival (R86). -/
def riseRejected (c : ClassDesc) (r : Ring) (before : Liveness) (fill : Nat) : Bool :=
  decide (1 ≤ r.occupancy) && before != .silent && before != .recovering && decide (r.cell 0 + c.maxRise < fill)

/-- The median of three numbers (R87). -/
def median3 (a b c : Nat) : Nat := max (min a b) (min (max a b) c)

/-- S6: the value to be stored (R87). -/
def valueToStore (c : ClassDesc) (r : Ring) (fill : Nat) : Nat :=
  if c.median ∧ 2 ≤ r.occupancy then median3 fill (r.cell 0) (r.cell 1) else fill

/-! ### S8: the estimate (R89 to R91) -/

/-- The settling mean of the stored values, rounded with halves upward (R89). -/
def settlingMean (r : Ring) : Nat := (2 * r.stored.sum + r.occupancy) / (2 * r.occupancy)

/-- A Kernel Store coefficient. -/
def Stores.coefficient (t : Stores) (p : Nat) : Int := t.kernel.toList.getD p 0

/-- The kernel sum over the newest cells (R90). -/
def kernelSum (t : Stores) (c : ClassDesc) (r : Ring) : Int :=
  ((List.range c.kernelLength).map fun k => t.coefficient (c.kernelStart + k) * (r.cell k : Int)).sum

/-- The rounded kernel value e (R90). -/
def kernelValue (t : Stores) (c : ClassDesc) (r : Ring) : Int := (kernelSum t c r + 8192) / 16384

/-- The estimate before clamping: the settling mean, or the kernel value (R89, R90). -/
def rawEstimate (t : Stores) (c : ClassDesc) (r : Ring) : Int :=
  if r.occupancy < c.kernelLength then (settlingMean r : Int) else kernelValue t c r

/-- The estimate brought into 0–1000 (R91). -/
def clampEstimate (e : Int) : Nat := (max 0 (min 1000 e)).toNat

/-- S8 at a slot: the estimate written, a clamp marked and counted (R89 to R91). A settling mean is never clamped (R89). -/
def State.estimate (s : State) (i : Slot) : State :=
  let r := s.record i
  let c := s.classOf i
  let e := rawEstimate s.stores c r.ring
  let kernelRuns := decide (c.kernelLength ≤ r.ring.occupancy)
  let low := kernelRuns && decide (e < 0)
  let high := kernelRuns && decide (1000 < e)
  let s := s.modRecord i fun x =>
    { x with
      estimate := some (if kernelRuns then clampEstimate e else settlingMean r.ring)
      lowClamp := x.lowClamp || low
      highClamp := x.highClamp || high }
  if low || high then s.modCounters fun k => { k with clamps := inc32 k.clamps } else s

end Sys2Proof.Machine
end

