-- ==== Sys2Proof/Machine/Packing.lean ====
section
/-! DEFINITION. Chapter 12: the codes of the named values and the byte layouts of records, notices, responses and egress frames (R189, R190). -/

namespace Sys2Proof.Machine

/-! ### Codes (R189) -/

def Health.code : Health → Nat
  | .normal => 0 | .degraded => 1 | .mute => 2

def IntervalClass.code : IntervalClass → Nat
  | .quiet => 0 | .degraded => 1 | .errored => 2 | .clean => 3

/-- The class of a lane snapshot, with none. -/
def snapshotClassCode : Option IntervalClass → Nat
  | some c => c.code | none => 4

def Mark.code : Mark → Nat
  | .none => 0 | .fcsBad => 1 | .length => 2

def Admin.code : Admin → Nat
  | .free => 0 | .active => 1 | .suspended => 2

def Band.code : Band → Nat
  | .low => 0 | .near => 1 | .full => 2

def Liveness.code : Liveness → Nat
  | .awaiting => 0 | .reporting => 1 | .late => 2 | .silent => 3 | .recovering => 4

def Identity.code : Identity → Nat
  | .matched => 0 | .mismatched => 1

def SensorState.code : SensorState → Nat
  | .normal => 0 | .suspect => 1

def Trigger.code : Trigger → Nat
  | .rise => 0 | .range => 1 | .pending => 2

def Status.code : Status → Nat
  | .ok => 0 | .clamped => 1 | .badCommand => 2 | .badLength => 3 | .badParam => 4 | .notFound => 5 | .exists => 6 | .noSlot => 7
  | .directoryFull => 8 | .wrongState => 9

def CollectCause.code : CollectCause → Nat
  | .visit => 0 | .drop => 1

def LivenessCause.code : LivenessCause → Nat
  | .visit => 0 | .arrival => 1

def SensorEvent.code : SensorEvent → Nat
  | .lid => 0 | .tilt => 1 | .shatter => 2 | .heat => 3 | .restart => 4

def EventChange.code : EventChange → Nat
  | .set => 0 | .cleared => 1 | .occurred => 2

/-! ### Notices (R190) -/

/-- The code of a notice's kind. -/
def NoticeBody.kind : NoticeBody → Nat
  | .band .. => 0 | .collected .. => 1 | .liveness .. => 2 | .identity .. => 3 | .sensor .. => 4 | .event .. => 5 | .discovered .. => 6
  | .lane .. => 7

/-- The kind-specific fields. -/
def NoticeBody.pack : NoticeBody → List Byte
  | .band old new estimate => pack8 old.code ++ pack8 new.code ++ pack16 estimate
  | .collected oldEstimate newFill oldBand cause => packOpt 2 pack16 oldEstimate ++ pack16 newFill ++ pack8 oldBand.code ++ pack8 cause.code
  | .liveness old new missed cause => pack8 old.code ++ pack8 new.code ++ pack8 missed ++ pack8 cause.code
  | .identity old new sampleFilter profileFilter => pack8 old.code ++ pack8 new.code ++ pack8 sampleFilter.val ++ pack8 profileFilter.val
  | .sensor old new trigger remaining => pack8 old.code ++ pack8 new.code ++ packOpt 1 (fun t => pack8 t.code) trigger ++ pack8 remaining
  | .event condition change temperature oldSequence newSequence =>
    pack8 condition.code ++ pack8 change.code ++ packOpt 1 packInt8 temperature ++ packOpt 2 (fun n => pack16 n.toNat) oldSequence ++
      packOpt 2 (fun n => pack16 n.toNat) newSequence
  | .discovered filter l rssi => pack8 filter.val ++ pack8 l.val ++ packInt16 rssi
  | .lane l old new cls frames errors =>
    pack8 l.val ++ pack8 old.code ++ pack8 new.code ++ pack8 cls.code ++ pack32 frames ++ pack32 errors

/-- A notice: the 13-byte common part, then the kind-specific fields. -/
def Notice.pack (n : Notice) : List Byte :=
  pack8 n.body.kind ++ pack32 n.time.toNat ++ packOpt 2 (fun i => pack16 i.val) n.slot ++ packOpt 4 (fun w => pack32 w.toNat) n.identifier ++
    n.body.pack

/-! ### Records -/

/-- The ten per-bin counters, in the order of 4.2. -/
def BinCounters.pack (c : BinCounters) : List Byte :=
  pack16 c.received ++ pack16 c.applied ++ pack16 c.merged ++ pack16 c.missedByGap ++ pack16 c.repeats ++ pack16 c.stale ++
    pack16 c.mismatches ++ pack16 c.rejected ++ pack16 c.marked ++ pack16 c.collections

/-- The visit links in their read form. -/
def VisitLinks.pack (k : VisitLinks) : List Byte := pack8 k.bucket.val ++ pack16 k.position

/-- The READ_BIN record (12, section 12.3). -/
def packBinRecord (i : Slot) (r : BinRecord) : List Byte :=
  pack16 i.val ++
  pack32 r.identifier.toNat ++ pack8 r.admin.code ++ pack8 r.cls.val ++ pack8 r.profileFilter.val ++
  packOpt 2 (fun n => pack16 n.toNat) r.lastSequence ++ pack32 r.lastHeard.toNat ++ packOpt 4 (fun n => pack32 n.toNat) r.lastArrival ++
  pack8 r.lanesHeard.toNat ++ packOpt 2 packInt16 r.bestRssi ++
  pack8 r.ring.occupancy ++ (r.ring.stored.map pack16).flatten ++
  packOpt 2 pack16 r.estimate ++ packFlag r.lowClamp ++ packFlag r.highClamp ++
  pack8 r.candidates.length ++ (r.candidates.map fun b => pack8 b.code).flatten ++
  pack8 r.band.code ++ pack32 r.bandSince.toNat ++ packFlag r.visitMark ++
  pack8 r.liveness.code ++ pack8 r.missed ++ pack8 r.recovery ++
  pack8 r.identity.code ++ pack8 r.mismatchRun ++ pack8 r.matchRun ++ pack8 r.sensor.code ++
  pack8 r.attempts ++ packFlag r.pendingFlag ++ packFlag r.lid ++ packFlag r.tilt ++ packFlag r.heat ++
  packOpt 3 VisitLinks.pack r.links ++
  r.counters.pack

/-- An entry of READ_BIN_RANGE, in the order of R176. -/
def packRangeEntry (i : Slot) (r : BinRecord) : List Byte :=
  pack16 i.val ++ packFlag (r.admin != .free) ++ pack32 r.identifier.toNat ++ packOpt 2 pack16 r.estimate ++ pack8 r.band.code ++
    pack8 r.liveness.code

/-- A Visit List entry (12, section 12.3). A listed record's estimate is present; 0 stands where it is not (assumption 13). -/
def packVisitEntry (rank : Nat) (i : Slot) (r : BinRecord) : List Byte :=
  pack16 rank ++ pack16 i.val ++ pack32 r.identifier.toNat ++ pack8 r.band.code ++ pack16 (r.estimate.getD 0) ++ pack8 r.liveness.code ++
    pack8 r.sensor.code ++ pack32 r.bandSince.toNat

/-- An entry of READ_DISCOVERY, with the fields of 4.5. -/
def DiscoveryEntry.pack (e : DiscoveryEntry) : List Byte :=
  pack32 e.identifier.toNat ++ pack32 e.firstHeard.toNat ++ pack32 e.lastHeard.toNat ++ pack16 e.count ++ pack8 e.filter.val

/-- The fields of 5.1 in order, without loaded. -/
def ClassDesc.packFields (c : ClassDesc) : List Byte :=
  pack8 c.curvePage.val ++ pack8 c.ringLength ++ pack8 c.kernelStart ++ pack8 c.kernelLength ++ packFlag c.median ++ pack16 c.maxRise ++
  pack16 c.collectDrop ++ pack16 c.collectFloor ++ pack16 c.nearOn ++ pack16 c.fullOn ++ pack8 c.hysteresis ++ pack8 c.nC ++ pack8 c.kC ++
  pack16 c.minDistance ++ pack16 c.maxDistance ++ pack32 c.reportInterval ++ pack8 c.lateCount ++ pack8 c.silentCount ++
  pack8 c.recoverCount ++ packFlag c.reMeasure ++ pack16 c.rxDelay ++ pack16 c.windowLength ++ pack8 c.maxAttempts ++
  packInt8 c.heatThreshold ++ packFlag c.lateNotice

/-- The fields of 5.1 in order, with loaded (READ_CLASS). -/
def ClassDesc.pack (c : ClassDesc) : List Byte := packFlag c.loaded ++ c.packFields

/-! ### Frames on the backhaul egress (12, sections 12.2 and 12.4) -/

/-- The backhaul envelope: type, payload length, payload, CRC. -/
def envelope (type : Byte) (payload : List Byte) : List Byte := withCrc ([type] ++ pack16 payload.length ++ payload)

/-- A FORWARD frame (R156). -/
def ForwardRecord.frame (r : ForwardRecord) : List Byte :=
  envelope 0x81 (pack8 r.lane.val ++ packInt16 r.rssi ++ pack32 r.arrival.toNat ++ pack8 r.mark.code ++ r.bytes)

/-- A DIGEST frame (R153, R190). -/
def digestFrame (sequence : Word16) (lost : Nat) (time : Word32) (notices : List Notice) : List Byte :=
  envelope 0x82 (pack16 sequence.toNat ++ pack16 lost ++ pack32 time.toNat ++ pack8 notices.length ++ (notices.map Notice.pack).flatten)

/-- A MGMT_RESPONSE frame (R157). -/
def Response.frame (r : Response) : List Byte :=
  envelope 0x83 (pack16 r.tag.toNat ++ [r.code] ++ pack8 r.status.code ++ r.results)

end Sys2Proof.Machine
end

