-- ==== Sys2Proof/Machine/Egress.lean ====
section
/-! DEFINITION. Chapter 9: the readiness of the Digest Builder, the Egress Arbiter's choice and its three grants, and the end of a send. -/

namespace Sys2Proof.Machine

/-- The Digest Builder is ready (R151). -/
def State.digestReady (s : State) : Bool :=
  decide (Config.digestMax ≤ s.notices.queue.length) ||
  (match s.notices.queue with | [] => false | q :: _ => decide (s.mgmt.params.hold ≤ q.holdAge)) ||
  s.notices.flushPending

/-- The sources of the egress. -/
inductive Source where
  | response | digest | forward
  deriving DecidableEq, Repr

/-- What the Egress Arbiter grants as the part stands: nothing while the link is SENDING (R158). -/
def State.egressChoice (s : State) : Option Source :=
  if s.egress.link.isSome then none
  else if s.egress.forward ≠ [] ∧ s.mgmt.params.starvationLimit ≤ s.egress.starvation then some .forward
  else if s.egress.responses ≠ [] then some .response
  else if s.digestReady then some .digest
  else if s.egress.forward ≠ [] then some .forward
  else none

/-- The starvation count after a grant to another source than the Forward FIFO (R159). -/
def Egress.passedOver (e : Egress) : Nat := if e.forward = [] then 0 else satAdd Config.maxStarvation 1 e.starvation

/-- RESPONSE_GRANT (R157 to R159). -/
def execResponseGrant (s : State) : Result :=
  .next (
    if s.egressChoice = some .response then
      match s.egress.responses with
      | [] => s
      | r :: rest =>
        { s with egress := { s.egress with responses := rest, link := some r.frame, starvation := s.egress.passedOver } }
    else s)

/-- The Notice Unit at a digest grant (R153). -/
def NoticeUnit.digested (u : NoticeUnit) : NoticeUnit :=
  let taken := min Config.digestMax u.queue.length
  let remaining := if u.flushPending then u.flushRemaining - taken else u.flushRemaining
  { queue := u.queue.drop Config.digestMax
    lost := 0
    digestSequence := u.digestSequence + 1
    flushPending := u.flushPending && remaining != 0
    flushRemaining := remaining }

/-- The digest that a grant forms (R153). -/
def State.digest (s : State) : List Byte :=
  digestFrame s.notices.digestSequence s.notices.lost s.mgmt.secs ((s.notices.queue.take Config.digestMax).map QueuedNotice.notice)

/-- DIGEST_GRANT (R153, R158, R159). -/
def execDigestGrant (s : State) : Result :=
  .next (
    if s.egressChoice = some .digest then
      { s with
        notices := s.notices.digested
        egress := { s.egress with link := some s.digest, starvation := s.egress.passedOver } }.modCounters fun c =>
          { c with digests := inc32 c.digests }
    else s)

/-- FORWARD_GRANT (R156, R158, R159). -/
def execForwardGrant (s : State) : Result :=
  .next (
    if s.egressChoice = some .forward then
      match s.egress.forward with
      | [] => s
      | r :: rest => { s with egress := { s.egress with forward := rest, link := some r.frame, starvation := 0 } }
    else s)

/-- EGRESS_DONE: the link returns to IDLE (R160). -/
def execEgressDone (s : State) : Result := .next { s with egress := { s.egress with link := none } }

/-- DIGEST_HOLD_DUE: readiness is judged from the queue, the hold ages and H as they stand, and nothing latches it (R151, assumption 12). -/
def execDigestHoldDue (s : State) : Result := .next s

end Sys2Proof.Machine
end

