-- ==== Sys2Proof/Machine/Liveness.lean ====
section
/-! DEFINITION. Chapter 7: liveness at arrivals, the Liveness Sweep's visits and the pass timer. -/

namespace Sys2Proof.Machine

/-! ### Arrivals (R122 to R124) -/

/-- The recovery count after an arrival; `contiguous` says that the sequence gap was 1 (R124). -/
def recoveryAfter (l : Liveness) (recovery : Nat) (contiguous : Bool) : Nat :=
  match l with
  | .silent => 1
  | .recovering => if contiguous then satAdd Config.maxRecovery 1 recovery else 1
  | _ => recovery

/-- The liveness after an arrival, given the recovery count just worked (R123, R124). -/
def livenessAfter (recoverCount : Nat) (l : Liveness) (recovery : Nat) : Liveness :=
  match l with
  | .silent | .recovering => if recoverCount ≤ recovery then .reporting else .recovering
  | _ => .reporting

/-- Whether an arrival's change raises a LIVENESS notice (R122 to R124). -/
def arrivalNotified (c : ClassDesc) (old new : Liveness) : Bool :=
  match old, new with
  | .late, .reporting => c.lateNotice
  | .silent, .reporting => true
  | .recovering, .reporting => true
  | _, _ => false

/-- The liveness arrival of a heard Sample (R123, R124). -/
def State.arrival (s : State) (i : Slot) (contiguous : Bool) : State :=
  let r := s.record i
  let c := s.classOf i
  let n := recoveryAfter r.liveness r.recovery contiguous
  let l := livenessAfter c.recoverCount r.liveness n
  let s := s.modRecord i fun x => { x with liveness := l, recovery := n }
  if arrivalNotified c r.liveness l then s.notifySlot i (.liveness r.liveness l r.missed .arrival) else s

/-! ### Sweep visits (R119 to R122) -/

/-- The missed-interval figure of a visit (R120). -/
def missedFigure (now lastHeard : Word32) (interval : Nat) : Nat :=
  let difference := (now - lastHeard).toNat
  if 2147483648 ≤ difference then 0 else min Config.maxMissed (difference / interval)

/-- The liveness after a visit (R121). -/
def livenessAtVisit (c : ClassDesc) (l : Liveness) (missed : Nat) : Liveness :=
  if l ≠ .silent ∧ c.silentCount ≤ missed then .silent
  else if l = .reporting ∧ c.lateCount ≤ missed then .late
  else l

/-- A sweep visit at an ACTIVE record (R120, R121). -/
def State.visit (s : State) (i : Slot) : State :=
  let r := s.record i
  let c := s.classOf i
  let m := missedFigure s.mgmt.secs r.lastHeard c.reportInterval
  let l := livenessAtVisit c r.liveness m
  let s := s.modRecord i fun x => { x with missed := m, liveness := l }
  if l ≠ r.liveness ∧ (l = .silent ∨ c.lateNotice) then s.notifySlot i (.liveness r.liveness l m .visit) else s

/-- The slot that the sweep considers after this one, or none after slot 8191 (R118, R119). -/
def nextSweepSlot (i : Slot) : Option Slot := if h : i.val + 1 < 8192 then some ⟨i.val + 1, h⟩ else none

/-- SWEEP_VISIT: the sweep reaches its next slot, visits it if ACTIVE, and advances (R119). -/
def execSweepVisit (s : State) : Result :=
  .next (
    match s.sweep.position with
    | none => s
    | some i =>
      let s := if (s.record i).admin = .active then s.visit i else s
      { s with sweep := { s.sweep with position := nextSweepSlot i } })

/-! ### Passes (R118, R126) -/

/-- The next advance of the Second Count brings the running pass timer to the P that it counts (R118, R128). -/
def Sweep.reachesPass (w : Sweep) : Bool :=
  match w.timer with
  | none => false
  | some t => decide (w.period ≤ t + 1)

/-- An advance at the pass timer: at P a pass starts, the timer returning to 0 with the position at slot 0 (R118), and the timer counts the
P now in force (R128). A stopped timer stays so. -/
def Sweep.count (w : Sweep) (passPeriod : Nat) : Sweep :=
  if w.reachesPass then { position := some 0, timer := some 0, period := passPeriod }
  else { w with timer := w.timer.map (· + 1) }

/-- The pass in progress has slots left and the timer is about to reach P; "every pass ends before the timer next reaches P" (R118). -/
def Sweep.mustEnd (w : Sweep) : Bool := w.position.isSome && w.reachesPass

/-- The sweep halted and any pass in progress abandoned (R126). -/
def Sweep.halt (w : Sweep) : Sweep := { w with position := none, timer := none }

end Sys2Proof.Machine
end

