-- ==== Sys2Proof/Machine/Classifier.lean ====
section
/-! DEFINITION. Chapter 2: the choice of lane, the pattern filters and their chains, and the decoding of a bin frame into a Sample. -/

namespace Sys2Proof.Machine

/-- The decoded content of one bin frame copy (R34). -/
structure Sample where
  lane : Lane
  rssi : Int
  arrival : Word32
  filter : Index16
  identifier : Word32
  sequence : Word16
  kind : MeasureKind
  raw : Nat
  temperature : Option Int
  lid : Option Bool
  tilt : Option Bool
  restart : Option Bool
  shatter : Option Bool
  deriving DecidableEq, Repr

/-! ### The lane served (R19) -/

/-- The lanes in cyclic order from the one after the pointer. -/
def laneOrder (p : Lane) : List Lane := [p + 1, p + 2, p + 3, p]

/-- The lane that the next take serves, if any FIFO holds a frame. -/
def State.laneToServe (s : State) : Option Lane :=
  (laneOrder s.classifier.pointer).find? fun l => !s.lanes[l].fifo.isEmpty

/-! ### Chains (R22) -/

/-- The filter of a number. -/
def Classifier.filter (c : Classifier) (f : Nat) : Filter := c.filters.toList.getD f Filter.initial

/-- Filter f heads a chain. -/
def Classifier.isHead (c : Classifier) (f : Nat) : Bool := f == 0 || !(c.filter (f - 1)).cascade

/-- The members of the chain from filter f on, at most `fuel` of them. -/
def Classifier.chainFrom (c : Classifier) : (fuel f : Nat) → List Filter
  | 0, _ => []
  | fuel + 1, f =>
    if 16 ≤ f then []
    else if (c.filter f).cascade then c.filter f :: c.chainFrom fuel (f + 1)
    else [c.filter f]

/-- The chain headed by filter h. -/
def Classifier.chain (c : Classifier) (h : Nat) : List Filter := c.chainFrom 16 h

/-- No chain is longer than R21 admits. -/
def Classifier.chainsFit (c : Classifier) : Bool :=
  (List.range 16).all fun f => !c.isHead f || decide ((c.chain f).length ≤ Config.maxChain)

/-! ### Matching (R23 to R25) -/

/-- The frame positions that a mask selects from a base, in ascending order. -/
def maskPositions (mask : Word16) (base : Nat) : List Nat :=
  ((List.range 16).filter fun i => mask.getLsbD i).map fun i => base + i

/-- The positions that the members of a chain select, the first member's mask standing at `base`. -/
def chainPositions : (members : List Filter) → (base : Nat) → List Nat
  | [], _ => []
  | m :: rest, base => maskPositions m.mask base ++ chainPositions rest (base + 16)

/-- The last-byte check of the head on the selected bytes (R24). -/
def lastByteMatches (head : Filter) (selected : List Byte) : Bool :=
  !head.lastCheck || selected.getLast? == some head.lastValue

/-- The chain matches the frame (R23, R24). -/
def chainMatches (members : List Filter) (frame : List Byte) : Bool :=
  match members with
  | [] => false
  | head :: _ =>
    let positions := chainPositions members head.offset
    let selected := positions.map fun p => frame.getD p 0
    head.enable && positions.all (fun p => decide (p + 2 < frame.length)) && crc selected == head.signature &&
      lastByteMatches head selected

/-- The number of the first chain head, in ascending order, whose chain matches (R25). -/
def Classifier.matchingFilter (c : Classifier) (frame : List Byte) : Option Index16 :=
  (List.finRange 16).find? fun h => c.isHead h.val && chainMatches (c.chain h.val) frame

/-! ### The decode check (R30) -/

/-- The ends of the fields that a layout has. -/
def Layout.fieldEnds (y : Layout) : List Nat :=
  [y.idOffset + 4, y.seqOffset + 2, y.measureOffset + 2] ++ (y.temperature.toList ++ y.flags.toList).map (· + 1)

/-- The layout's minimum length: the largest field end, plus 2. -/
def Layout.minLength (y : Layout) : Nat := y.fieldEnds.foldl max 0 + 2

/-- The bytes at a position, most significant first. -/
def orderedBytes (order : ByteOrder) (frame : List Byte) (offset width : Nat) : List Byte :=
  let bytes := (List.range width).map fun i => frame.getD (offset + i) 0
  match order with
  | .big => bytes
  | .little => bytes.reverse

/-- The identifier that a layout reads from a frame (R32). -/
def Layout.identifierOf (y : Layout) (frame : List Byte) : Word32 :=
  BitVec.ofNat 32 (read32 (orderedBytes y.idOrder frame y.idOffset 4) 0)

/-- The sequence number that a layout reads (R32). -/
def Layout.sequenceOf (y : Layout) (frame : List Byte) : Word16 :=
  BitVec.ofNat 16 (read16 (orderedBytes y.seqOrder frame y.seqOffset 2) 0)

/-- The raw measure value that a layout reads (R32). -/
def Layout.rawOf (y : Layout) (frame : List Byte) : Nat := read16 (orderedBytes y.measureOrder frame y.measureOffset 2) 0

/-- The temperature, a signed byte (R33). -/
def Layout.temperatureOf (y : Layout) (frame : List Byte) : Option Int := y.temperature.map fun p => readInt8 frame p

/-- A flag: absent when its position or the flags offset is absent (R33). -/
def Layout.flagOf (y : Layout) (frame : List Byte) (position : Option Nat) : Option Bool :=
  match y.flags, position with
  | some p, some b => some ((frame.getD p 0).getLsbD b)
  | _, _ => none

/-- The decode check passes: length enough and a valid identifier (R30). -/
def Layout.decodes (y : Layout) (frame : List Byte) : Bool :=
  decide (y.minLength ≤ frame.length) && validIdentifier (y.identifierOf frame)

/-- The Sample decoded from a frame (R32 to R34). -/
def Layout.sample (y : Layout) (l : Lane) (f : LaneFrame) (filter : Index16) : Sample :=
  { lane := l, rssi := f.rssi, arrival := f.arrival, filter := filter, identifier := y.identifierOf f.bytes,
    sequence := y.sequenceOf f.bytes, kind := y.kind, raw := y.rawOf f.bytes, temperature := y.temperatureOf f.bytes,
    lid := y.flagOf f.bytes y.lid, tilt := y.flagOf f.bytes y.tilt, restart := y.flagOf f.bytes y.restart,
    shatter := y.flagOf f.bytes y.shatter }

end Sys2Proof.Machine
end

