-- ==== Sys2Proof/Machine/Operands.lean ====
section
/-! DEFINITION. The operands of management requests: what the parameter bytes of each command give (R167, R189, section 10.4), and the checks of a loaded table (R21, R29, R73). -/

namespace Sys2Proof.Machine

/-! ### Shared forms (R167) -/

/-- A two-valued switch: 1 or 0, any other code is BAD_PARAM. -/
def readSwitch (ps : List Byte) (i : Nat) : Option Bool :=
  if read8 ps i = 0 then some false else if read8 ps i = 1 then some true else none

/-- A one-byte number of at most `limit`. -/
def readUpTo (ps : List Byte) (i limit : Nat) : Option Nat := if read8 ps i ≤ limit then some (read8 ps i) else none

/-- A number from 0 to 15. -/
def readIndex (ps : List Byte) (i : Nat) : Option Index16 := if h : read8 ps i < 16 then some ⟨read8 ps i, h⟩ else none

/-- A one-byte field that may be absent: a presence byte and a value, which is 0 when the field is absent. -/
def readOptional (ps : List Byte) (i limit : Nat) : Option (Option Nat) :=
  if read8 ps i = 0 then (if read8 ps (i + 1) = 0 then some none else none)
  else if read8 ps i = 1 then (readUpTo ps (i + 1) limit).map some
  else none

/-- The slot of a number. -/
def slotOf (n : Nat) : Option Slot := if h : n < 8192 then some ⟨n, h⟩ else none

/-- A selector and key, at the start of the parameters (R167, section 10.4). -/
inductive BinKey where
  | byIdentifier (identifier : Word32)
  | bySlot (slot : Slot)
  deriving DecidableEq, Repr

/-- The bin that a request names; none where selector or key is BAD_PARAM. -/
def readKey (ps : List Byte) : Option BinKey :=
  if read8 ps 0 = 0 then some (.byIdentifier (BitVec.ofNat 32 (read32 ps 1)))
  else if read8 ps 0 = 1 then (slotOf (read32 ps 1)).map .bySlot
  else none

/-! ### LOAD_FILTER (R21) -/

/-- A filter's action from its code. -/
def actionOf : Nat → Option FilterAction
  | 0 => some .binReport
  | 1 => some .binReportAndForward
  | 2 => some .forward
  | 3 => some .discard
  | _ => none

/-- The filter that a LOAD_FILTER carries from byte 1; none where a field lies outside its range. -/
def readFilter (ps : List Byte) : Option Filter := do
  let enable ← readSwitch ps 1
  let offset ← readUpTo ps 2 63
  let lastCheck ← readSwitch ps 7
  let cascade ← readSwitch ps 9
  let action ← actionOf (read8 ps 10)
  let layout ← readIndex ps 11
  return { enable := enable, offset := offset, mask := BitVec.ofNat 16 (read16 ps 3), signature := BitVec.ofNat 16 (read16 ps 5),
           lastCheck := lastCheck, lastValue := BitVec.ofNat 8 (read8 ps 8), cascade := cascade, action := action, layout := layout }

/-! ### LOAD_LAYOUT (R29) -/

/-- A byte order from its code. -/
def orderOf : Nat → Option ByteOrder
  | 0 => some .big
  | 1 => some .little
  | _ => none

/-- A measure kind from its code. -/
def kindOf : Nat → Option MeasureKind
  | 0 => some .tofUs
  | 1 => some .distMm
  | _ => none

/-- The layout that a LOAD_LAYOUT carries from byte 1; none where a field lies outside its range or set. -/
def readLayout (ps : List Byte) : Option Layout := do
  let idOffset ← readUpTo ps 1 63
  let idOrder ← orderOf (read8 ps 2)
  let seqOffset ← readUpTo ps 3 63
  let seqOrder ← orderOf (read8 ps 4)
  let measureOffset ← readUpTo ps 5 63
  let measureOrder ← orderOf (read8 ps 6)
  let kind ← kindOf (read8 ps 7)
  let temperature ← readOptional ps 8 63
  let flags ← readOptional ps 10 63
  let lid ← readOptional ps 12 7
  let tilt ← readOptional ps 14 7
  let restart ← readOptional ps 16 7
  let shatter ← readOptional ps 18 7
  return { idOffset := idOffset, idOrder := idOrder, seqOffset := seqOffset, seqOrder := seqOrder, measureOffset := measureOffset,
           measureOrder := measureOrder, kind := kind, temperature := temperature, flags := flags, lid := lid, tilt := tilt,
           restart := restart, shatter := shatter }

/-! ### LOAD_CLASS (R73) -/

/-- Every field of the descriptor lies in the range of 5.1. -/
def ClassDesc.inRange (c : ClassDesc) : Bool :=
  (c.ringLength == 4 || c.ringLength == 8 || c.ringLength == 16) &&
  decide (c.kernelStart ≤ 127) && decide (1 ≤ c.kernelLength ∧ c.kernelLength ≤ 16) &&
  decide (1 ≤ c.maxRise ∧ c.maxRise ≤ 1000) && decide (1 ≤ c.collectDrop ∧ c.collectDrop ≤ 1000) && decide (c.collectFloor ≤ 1000) &&
  decide (1 ≤ c.nearOn ∧ c.nearOn ≤ 999) && decide (2 ≤ c.fullOn ∧ c.fullOn ≤ 1000) && decide (c.hysteresis ≤ 200) &&
  decide (1 ≤ c.nC ∧ c.nC ≤ 16) && decide (1 ≤ c.kC ∧ c.kC ≤ 16) &&
  decide (c.minDistance ≤ 65534) && decide (1 ≤ c.maxDistance ∧ c.maxDistance ≤ 65535) &&
  decide (60 ≤ c.reportInterval ∧ c.reportInterval ≤ 86400) && decide (1 ≤ c.lateCount ∧ c.lateCount ≤ 31) &&
  decide (2 ≤ c.silentCount ∧ c.silentCount ≤ 63) && decide (1 ≤ c.recoverCount ∧ c.recoverCount ≤ 15) &&
  decide (100 ≤ c.rxDelay ∧ c.rxDelay ≤ 5000) && decide (10 ≤ c.windowLength ∧ c.windowLength ≤ 1000) &&
  decide (1 ≤ c.maxAttempts ∧ c.maxAttempts ≤ 7) &&
  (decide (-40 ≤ c.heatThreshold ∧ c.heatThreshold ≤ 125) || c.heatThreshold == 127)

/-- The relations that LOAD_CLASS checks. -/
def ClassDesc.related (c : ClassDesc) : Bool :=
  decide (c.kernelStart + c.kernelLength ≤ 128) && decide (c.kernelLength ≤ c.ringLength) &&
  decide (c.nC < 2 * c.kC) && decide (c.kC ≤ c.nC) && decide (c.nearOn < c.fullOn) && decide (c.hysteresis ≤ c.nearOn) &&
  decide (c.minDistance < c.maxDistance) && decide (c.lateCount < c.silentCount)

/-- The descriptor that a LOAD_CLASS carries from byte 1, before its ranges and relations are checked; none for a bad switch or page. -/
def readClass (ps : List Byte) : Option ClassDesc := do
  let curvePage ← readIndex ps 1
  let median ← readSwitch ps 5
  let reMeasure ← readSwitch ps 30
  let lateNotice ← readSwitch ps 37
  return { loaded := true, curvePage := curvePage, ringLength := read8 ps 2, kernelStart := read8 ps 3, kernelLength := read8 ps 4,
           median := median, maxRise := read16 ps 6, collectDrop := read16 ps 8, collectFloor := read16 ps 10, nearOn := read16 ps 12,
           fullOn := read16 ps 14, hysteresis := read8 ps 16, nC := read8 ps 17, kC := read8 ps 18, minDistance := read16 ps 19,
           maxDistance := read16 ps 21, reportInterval := read32 ps 23, lateCount := read8 ps 27, silentCount := read8 ps 28,
           recoverCount := read8 ps 29, reMeasure := reMeasure, rxDelay := read16 ps 31, windowLength := read16 ps 33,
           maxAttempts := read8 ps 35, heatThreshold := readInt8 ps 36, lateNotice := lateNotice }

/-! ### LOAD_CURVE and LOAD_KERNEL (R75, R76) -/

/-- The 33 fill values that a LOAD_CURVE carries, as received. -/
def readFills (ps : List Byte) : Vector Nat 33 := ⟨⟨(List.range 33).map fun i => read16 ps (4 + 2 * i)⟩, by simp⟩

/-- The coefficients that a LOAD_KERNEL carries. -/
def readCoefficients (ps : List Byte) : List Int := (List.range (read8 ps 1)).map fun k => readInt16 ps (2 + 2 * k)

/-! ### SET_PARAMS (R173, section 10.5) -/

/-- The pairs of parameter number and value, in request order. -/
def readPairs (ps : List Byte) : List (Nat × Nat) :=
  (List.range (read8 ps 0)).map fun k => (read8 ps (1 + 3 * k), read16 ps (2 + 3 * k))

/-- The range of a numeric parameter; none for an enumerated one. -/
def paramRange : Nat → Option (Nat × Nat)
  | 6 => some (1, 1023)
  | 7 => some (1, 15)
  | 8 => some (1, 15)
  | 9 => some (1, 15)
  | 12 => some (50, 2000)
  | 14 => some (10, 600)
  | 15 => some (1, 60)
  | 16 => some (1, 32)
  | 17 => some (10, 3600)
  | _ => none

/-- The pair names a parameter, and gives an enumerated one a value of its set. -/
def pairAdmitted (pair : Nat × Nat) : Bool :=
  decide (1 ≤ pair.1 ∧ pair.1 ≤ 17) && ((paramRange pair.1).isSome || decide (pair.2 ≤ 1))

/-- The value applied: a numeric value moved to the nearer limit of its range. -/
def appliedValue (pair : Nat × Nat) : Nat :=
  match paramRange pair.1 with
  | some (lo, hi) => clampNat lo hi pair.2
  | none => pair.2

/-- A parameter written by number; the codes of the enumerated ones are those of R189. -/
def Params.write (p : Params) (number value : Nat) : Params :=
  let on := value == 1
  let mark : MarkPolicy := if value = 1 then .forwardMarked else .drop
  match number with
  | 1 => { p with laneEnable := p.laneEnable.set 0 on }
  | 2 => { p with laneEnable := p.laneEnable.set 1 on }
  | 3 => { p with laneEnable := p.laneEnable.set 2 on }
  | 4 => { p with laneEnable := p.laneEnable.set 3 on }
  | 5 => { p with fcsPolicy := mark }
  | 6 => { p with thr := value }
  | 7 => { p with dOn := value }
  | 8 => { p with qOn := value }
  | 9 => { p with cOn := value }
  | 10 => { p with defaultAction := if value = 1 then .discard else .forward }
  | 11 => { p with lengthPolicy := mark }
  | 12 => { p with copyWindow := value }
  | 13 => { p with rangePolicy := if value = 1 then .mark else .drop }
  | 14 => { p with passPeriod := value }
  | 15 => { p with hold := value }
  | 16 => { p with starvationLimit := value }
  | 17 => { p with interval := value }
  | _ => p

end Sys2Proof.Machine
end

