-- ==== Sys2Proof/Machine/Management.lean ====
section
/-! DEFINITION. Chapter 10: the backhaul ingress, the taking of a request, and the requests that act on the part as a whole. -/

namespace Sys2Proof.Machine

/-! ### The backhaul ingress (R164, R165, R188) -/

/-- A management drop (R164, R165, R188). -/
def State.managementDrop (s : State) : State := s.modCounters fun c => { c with managementDrops := inc32 c.managementDrops }

/-- The payload of an ingress frame whose length field agrees with its length. -/
def payloadOf (bytes : List Byte) : List Byte := (bytes.drop 3).take (bytes.length - 5)

/-- The envelope checks: length, length field and CRC (R164, R188). -/
def envelopeOk (bytes : List Byte) : Bool :=
  decide (Config.minEnvelope ≤ bytes.length ∧ bytes.length ≤ Config.maxEnvelope) && read16 bytes 1 == bytes.length - 5 &&
    (crc (bytes.take (bytes.length - 2))).toNat == read16 bytes (bytes.length - 2)

/-- A MGMT_REQUEST offered to the Request FIFO; one without a whole tag and command code is dropped (R165, R188). -/
def State.offerRequest (s : State) (payload : List Byte) : State :=
  if payload.length < 3 then s.managementDrop
  else if s.mgmt.requests.length < Config.requestFifoDepth then
    let q : Request := { tag := BitVec.ofNat 16 (read16 payload 0), code := payload.getD 2 0, params := payload.drop 3 }
    { s with mgmt := { s.mgmt with requests := s.mgmt.requests ++ [q] } }
  else s.managementDrop

/-- INGRESS_FRAME (R164, R188). -/
def execIngressFrame (bytes : List Byte) (s : State) : Result :=
  .next (
    if envelopeOk bytes then
      if bytes.getD 0 0 = 0x01 then s.offerRequest (payloadOf bytes)
      else if bytes.getD 0 0 = 0x02 then s.offerDownlink (payloadOf bytes)
      else s.managementDrop
    else s.managementDrop)

/-! ### Taking a request (R166, R167) -/

/-- What a command's owner answers: the state it leaves, the status and the results. -/
structure Reply where
  state : State
  status : Status
  results : List Byte

/-- A refusal: nothing changed and no results (R167). -/
def State.refuse (s : State) (status : Status) : Reply := { state := s, status := status, results := [] }

/-- The request that the Management Unit takes next if its command code is this one: the head of the Request FIFO, while the Response
FIFO has a free place (R166). -/
def State.requestOf (s : State) (code : Byte) : Option Request :=
  match s.mgmt.requests with
  | [] => none
  | q :: _ => if q.code = code ∧ s.egress.responses.length < Config.responseFifoDepth then some q else none

/-- The head of the Request FIFO removed (R166). -/
def State.dropRequest (s : State) : State := { s with mgmt := { s.mgmt with requests := s.mgmt.requests.tail } }

/-- The owner's answer placed as the response (R166). -/
def Reply.place (a : Reply) (q : Request) : State := a.state.respond q a.status a.results

/-- A request of the command `code` taken whole: removed, its length checked, handed to its owner, answered (R166, R167). With another
request at the head, none, or no place for the response, nothing is taken (assumption 1). -/
def serve (code : Byte) (fits : List Byte → Bool) (own : State → List Byte → Reply) (s : State) : Result :=
  .next (
    match s.requestOf code with
    | none => s
    | some q =>
      if fits q.params then (own s.dropRequest q.params).place q else s.dropRequest.respond q .badLength [])

/-- The parameter bytes number exactly n. -/
def exactly (n : Nat) (ps : List Byte) : Bool := ps.length == n

/-- The command codes of section 12.3. -/
def commandCodes : List Byte :=
  [0x01, 0x02, 0x03, 0x04, 0x05, 0x06, 0x10, 0x11, 0x12, 0x13, 0x20, 0x21, 0x22, 0x23, 0x24, 0x25, 0x30, 0x31, 0x32, 0x33, 0x34, 0x35]

/-- BAD_COMMAND_REQUEST: the head's command code names no command (R167). -/
def execBadCommandRequest (s : State) : Result :=
  .next (
    match s.mgmt.requests with
    | [] => s
    | q :: _ =>
      if commandCodes.contains q.code = false ∧ s.egress.responses.length < Config.responseFifoDepth then
        s.dropRequest.respond q .badCommand []
      else s)

/-! ### IDENTIFY, START, STOP, RESTART, SET_TIME (R169 to R172, R174) -/

/-- Slots whose admin state is not FREE. -/
def State.provisionedSlots (s : State) : Nat := s.bins.records.toList.countP fun r => r.admin ≠ .free

/-- Class descriptors that are loaded. -/
def State.loadedClasses (s : State) : Nat := s.stores.classes.toList.countP fun c => c.loaded

/-- The IDENTIFY results (R174). -/
def ownIdentify (s : State) (_ : List Byte) : Reply :=
  { state := s, status := .ok,
    results := pack16 Config.partCode ++ pack8 Config.revision ++ pack8 (if s.mgmt.running then 1 else 0) ++ pack32 s.mgmt.secs.toNat ++
      pack32 s.mgmt.ms.toNat ++ pack16 s.provisionedSlots ++ pack8 s.loadedClasses }

/-- IDENTIFY. -/
def execIdentify (s : State) : Result := serve 0x01 (exactly 0) ownIdentify s

/-- A provisioned record at START (R127). -/
def BinRecord.started (r : BinRecord) (now : Word32) : BinRecord := if r.admin = .free then r else { r with lastHeard := now }

/-- START (R127, R169). -/
def ownStart (s : State) (_ : List Byte) : Reply :=
  if s.mgmt.running then s.refuse .wrongState
  else
    let s := s.mapRecords fun r => r.started s.mgmt.secs
    let s := { s with
      mgmt := { s.mgmt with running := true }
      sweep := { s.sweep with timer := some 0, period := s.mgmt.params.passPeriod } }
    { state := s, status := .ok, results := pack32 s.mgmt.secs.toNat }

/-- START. -/
def execStart (s : State) : Result := serve 0x02 (exactly 0) ownStart s

/-- STOP (R126, R145, R170). -/
def ownStop (s : State) (_ : List Byte) : Reply :=
  if s.mgmt.running then
    let s := s.stopQueue
    { state := { s with mgmt := { s.mgmt with running := false }, sweep := s.sweep.halt }, status := .ok, results := [] }
  else s.refuse .wrongState

/-- STOP. -/
def execStop (s : State) : Result := serve 0x03 (exactly 0) ownStop s

/-- The flush of RESTART (R7, R47, R126, R146, R162, R171). -/
def State.flush (s : State) : State :=
  { s with
    lanes := mapLanes s.lanes fun x => { x with fifo := [] }
    copies := []
    sweep := s.sweep.halt
    downlink := { queue := [], frames := [], tx := none }
    notices := { s.notices with queue := [], lost := 0, flushPending := false, flushRemaining := 0 }
    egress := { s.egress with responses := [], forward := [], starvation := 0 }
    mgmt := { s.mgmt with running := false } }

/-- RESTART's own part (R171). -/
def ownRestart (s : State) (_ : List Byte) : Reply := { state := s.flush, status := .ok, results := [] }

/-- RESTART. -/
def execRestart (s : State) : Result := serve 0x04 (exactly 0) ownRestart s

/-- SET_TIME (R172). -/
def ownSetTime (s : State) (ps : List Byte) : Reply :=
  if s.mgmt.running then s.refuse .wrongState
  else
    { state := { s with mgmt := { s.mgmt with secs := BitVec.ofNat 32 (read32 ps 0) } }, status := .ok,
      results := pack32 (read32 ps 0) }

/-- SET_TIME. -/
def execSetTime (s : State) : Result := serve 0x05 (exactly 4) ownSetTime s

/-! ### SET_PARAMS (R173) -/

/-- The count agrees with the length: 1 + 3n bytes. -/
def paramsFit (ps : List Byte) : Bool := ps.length == 1 + 3 * read8 ps 0 && decide (1 ≤ ps.length)

/-- Every pair applied in request order. -/
def Params.apply (p : Params) (pairs : List (Nat × Nat)) : Params := pairs.foldl (fun p q => p.write q.1 (appliedValue q)) p

/-- SET_PARAMS (R173). -/
def ownSetParams (s : State) (ps : List Byte) : Reply :=
  let pairs := readPairs ps
  if pairs.length = 0 ∨ 17 < pairs.length ∨ pairs.all pairAdmitted = false then s.refuse .badParam
  else
    { state := { s with mgmt := { s.mgmt with params := s.mgmt.params.apply pairs } }
      status := if pairs.all (fun q => appliedValue q == q.2) then .ok else .clamped
      results := pack8 pairs.length ++ (pairs.map fun q => pack8 q.1 ++ pack16 (appliedValue q)).flatten }

/-- SET_PARAMS. -/
def execSetParams (s : State) : Result := serve 0x06 paramsFit ownSetParams s

/-! ### Power-on reset (R179) -/

/-- POWER_ON_RESET: every block at its power-on values; the commands that wait outside the part still wait (assumption 15). -/
def execPowerOnReset (s : State) : Result := .next { State.reset with pending := s.pending }

end Sys2Proof.Machine
end

