-- ==== Sys2Proof/Machine/Visits.lean ====
section
/-! DEFINITION. Chapter 6: candidate bands, confirmation by majority, and the changes of the Visit List (JOIN, LEAVE, MOVE). -/

namespace Sys2Proof.Machine

/-! ### The list and its changes (R104 to R110) -/

/-- The bucket of an estimate, floor(E / 16) (06, section 6.4). -/
def bucketOf (e : Nat) : Bucket := ⟨min (e / 16) 62, by omega⟩

/-- The slots of a bucket of a band, in order of joining. -/
def VisitList.bucket (v : VisitList) (b : Band) (k : Bucket) : List Slot :=
  match b with
  | .full => v.full[k]
  | .near => v.near[k]
  | .low => []

/-- A bucket replaced. -/
def VisitList.setBucket (v : VisitList) (b : Band) (k : Bucket) (l : List Slot) : VisitList :=
  match b with
  | .full => { v with full := v.full.set k l }
  | .near => { v with near := v.near.set k l }
  | .low => v

/-- A band's count raised by one (R106). -/
def VisitList.countUp (v : VisitList) (b : Band) : VisitList :=
  match b with
  | .full => { v with fullCount := v.fullCount + 1 }
  | .near => { v with nearCount := v.nearCount + 1 }
  | .low => v

/-- A band's count lowered by one (R107). -/
def VisitList.countDown (v : VisitList) (b : Band) : VisitList :=
  match b with
  | .full => { v with fullCount := v.fullCount - 1 }
  | .near => { v with nearCount := v.nearCount - 1 }
  | .low => v

/-- One step of the epoch (R110). -/
def VisitList.step (v : VisitList) : VisitList := { v with epoch := v.epoch + 1 }

/-- A place one nearer the head of its bucket (R107). -/
def BinRecord.moveForward (r : BinRecord) : BinRecord :=
  { r with links := r.links.map fun k => { k with position := k.position - 1 } }

/-- The slots that stand behind a slot in its bucket. -/
def slotsBehind (l : List Slot) (i : Slot) : List Slot := (l.dropWhile (· ≠ i)).drop 1

/-- A slot taken out of a bucket, the slots behind it moving one place forward (R107). -/
def State.removeFromBucket (s : State) (i : Slot) (b : Band) (k : Bucket) : State :=
  let l := s.visits.bucket b k
  let s := { s with visits := s.visits.setBucket b k (l.erase i) }
  (slotsBehind l i).foldl (fun s j => s.modRecord j BinRecord.moveForward) s

/-- A slot put at the tail of a bucket, its links set to match (R106). -/
def State.appendToBucket (s : State) (i : Slot) (b : Band) (k : Bucket) : State :=
  let l := s.visits.bucket b k
  let s := { s with visits := s.visits.setBucket b k (l ++ [i]) }
  s.modRecord i fun r => { r with links := some { bucket := k, position := l.length } }

/-- JOIN (R106). -/
def State.joinList (s : State) (i : Slot) (b : Band) (k : Bucket) : State :=
  let s := s.appendToBucket i b k
  { s with visits := (s.visits.countUp b).step }

/-- LEAVE of a slot that the given band's list holds; nothing when its links are absent (R107). -/
def State.leaveList (s : State) (i : Slot) (b : Band) : State :=
  match (s.record i).links with
  | none => s
  | some k =>
    let s := s.removeFromBucket i b k.bucket
    let s := s.modRecord i fun r => { r with links := none }
    { s with visits := (s.visits.countDown b).step }

/-- MOVE of a listed slot from a bucket of one band's list to the tail of another bucket (R108). -/
def State.moveList (s : State) (i : Slot) (old : Band) (oldBucket : Bucket) (new : Band) (newBucket : Bucket) : State :=
  let s := s.removeFromBucket i old oldBucket
  let s := s.appendToBucket i new newBucket
  { s with visits := ((s.visits.countDown old).countUp new).step }

/-! ### Band confirmation (R96 to R101) -/

/-- The order LOW below NEAR below FULL. -/
def Band.rank : Band → Nat
  | .low => 0
  | .near => 1
  | .full => 2

/-- The candidate of an estimate, given the confirmed band (R97). -/
def candidateBand (c : ClassDesc) (b : Band) (e : Nat) : Band :=
  if c.fullOn ≤ e ∨ (b = .full ∧ c.fullOn ≤ e + c.hysteresis) then .full
  else if c.nearOn ≤ e ∨ (b ≠ .low ∧ c.nearOn ≤ e + c.hysteresis) then .near
  else .low

/-- The candidate list after a push: trimmed to the newest n_c, pushed, the oldest dropped (R98). -/
def pushCandidate (nC : Nat) (b : Band) (l : List Band) : List Band := (b :: l.take nC).take nC

/-- Entries at or above a band. -/
def countAtOrAbove (l : List Band) (b : Band) : Nat := l.countP fun x => b.rank ≤ x.rank

/-- Entries at or below a band. -/
def countAtOrBelow (l : List Band) (b : Band) : Nat := l.countP fun x => x.rank ≤ b.rank

/-- The confirmation test: the up-move to the highest band supported, else the down-move to the lowest (R99). -/
def confirmedBand (kC : Nat) (l : List Band) (b : Band) : Band :=
  if b ≠ .full ∧ kC ≤ countAtOrAbove l .full then .full
  else if b = .low ∧ kC ≤ countAtOrAbove l .near then .near
  else if b ≠ .low ∧ kC ≤ countAtOrBelow l .low then .low
  else if b = .full ∧ kC ≤ countAtOrBelow l .near then .near
  else b

/-- The slot's place reconciled with the law of membership; `old` is the band before confirmation (R105). -/
def State.reconcile (s : State) (i : Slot) (old : Band) (e : Nat) : State :=
  match (s.record i).links with
  | none => if (s.record i).band = .low then s else s.joinList i (s.record i).band (bucketOf e)
  | some k =>
    if (s.record i).band = .low then s.leaveList i old
    else if (s.record i).band = old ∧ k.bucket = bucketOf e then s
    else s.moveList i old k.bucket (s.record i).band (bucketOf e)

/-- A change of band by confirmation, with its BAND notice (R100). -/
def State.changeBand (s : State) (i : Slot) (new : Band) (e : Nat) : State :=
  let old := (s.record i).band
  if new = old then s
  else
    let s := s.modRecord i fun r => { r with band := new, bandSince := s.mgmt.secs }
    s.notifySlot i (.band old new e)

/-- Band confirmation of a new estimate (R96). -/
def State.confirm (s : State) (i : Slot) (e : Nat) : State :=
  let c := s.classOf i
  let r := s.record i
  let l := pushCandidate c.nC (candidateBand c r.band e) r.candidates
  let s := s.modRecord i fun x => { x with candidates := l }
  let s := s.changeBand i (confirmedBand c.kC l r.band) e
  s.reconcile i r.band e

/-! ### Reading order (R111) -/

/-- The slots of a band's buckets, from bucket 62 down to 0, each from head to tail. -/
def bandOrder (v : Vector (List Slot) 63) : List Slot := v.toList.reverse.flatten

end Sys2Proof.Machine
end

