-- ==== Sys2Proof/Machine/BinRequests.lean ====
section
/-! DEFINITION. The requests about bins: PROVISION, RETIRE, SET_ADMIN, CONFIRM_VISIT, and the reads of records, of the Visit List and of the Discovery List (chapters 4, 6 and 10). -/

namespace Sys2Proof.Machine

/-! ### PROVISION (R52, R53, R62) -/

/-- The directory with a mapping placed in a way, or the way made not valid. -/
def State.setWay (s : State) (k : Fin 16384) (w : DirWay) : State :=
  { s with bins := { s.bins with directory := s.bins.directory.set k w } }

/-- The record that PROVISION sets (R53); a field not given here has the value of the FREE record, as R53 asks. -/
def provisioned (c : ClassDesc) (identifier : Word32) (cls profileFilter : Index16) (now : Word32) : BinRecord :=
  { BinRecord.free with
    identifier := identifier, admin := .active, cls := cls, profileFilter := profileFilter, lastHeard := now, bandSince := now,
    attempts := c.maxAttempts }

/-- A bin placed in a slot and a way, its Discovery List entry removed (R53, R62). -/
def State.placeBin (s : State) (i : Slot) (k : Fin 16384) (identifier : Word32) (cls profileFilter : Index16) : State :=
  let s := s.setWay k { valid := true, identifier := identifier, slot := i }
  let s := s.setRecord i (provisioned (s.classDesc cls) identifier cls profileFilter s.mgmt.secs)
  { s with bins := { s.bins with discovery := s.bins.discovery.filter fun e => e.identifier != identifier } }

/-- The slot that a PROVISION takes: the given one if FREE, else the lowest-numbered FREE one (R52, R53). -/
def State.slotToTake (s : State) (given : Option Slot) : Option Slot :=
  match given with
  | some i => if (s.record i).admin = .free then some i else none
  | none => s.freeSlot

/-- The slot-given field and the slot: none for a bad switch or a given slot above 8191 (R52). -/
def readGivenSlot (ps : List Byte) : Option (Option Slot) :=
  match readSwitch ps 6 with
  | none => none
  | some false => some none
  | some true => (slotOf (read16 ps 7)).map some

/-- PROVISION: checked in the order of R52, refused with the first failure found. -/
def ownProvision (s : State) (ps : List Byte) : Reply :=
  let identifier : Word32 := BitVec.ofNat 32 (read32 ps 0)
  match validIdentifier identifier, readIndex ps 4, readIndex ps 5, readGivenSlot ps with
  | true, some cls, some profileFilter, some given =>
    if (s.classDesc cls).loaded = false then s.refuse .badParam
    else
      match s.lookup identifier with
      | some i => { state := s, status := .exists, results := pack16 i.val }
      | none =>
        match s.slotToTake given with
        | none => s.refuse .noSlot
        | some i =>
          match s.freeWay identifier with
          | none => s.refuse .directoryFull
          | some k => { state := s.placeBin i k identifier cls profileFilter, status := .ok, results := pack16 i.val }
  | _, _, _, _ => s.refuse .badParam

/-- PROVISION. -/
def execProvision (s : State) : Result := serve 0x10 (exactly 9) ownProvision s

/-! ### The bin that a request names -/

/-- The provisioned slot that a key names; none is NOT_FOUND (R50, R54). -/
def State.resolve (s : State) : BinKey → Option Slot
  | .byIdentifier id => s.lookup id
  | .bySlot i => if (s.record i).admin = .free then none else some i

/-- Slot and identifier, as several requests answer them. -/
def State.packSlotAndId (s : State) (i : Slot) : List Byte := pack16 i.val ++ pack32 (s.record i).identifier.toNat

/-! ### RETIRE (R54) -/

/-- The slot's way made not valid. -/
def State.unmap (s : State) (identifier : Word32) : State :=
  match s.findWay identifier with
  | none => s
  | some k => s.setWay k { s.bins.directory[k] with valid := false }

/-- The bin of a slot retired. -/
def State.retireSlot (s : State) (i : Slot) : State :=
  let r := s.record i
  let s := s.leaveList i r.band
  let s := { s with downlink := s.downlink.removeEntry i }
  let s := s.unmap r.identifier
  s.setRecord i BinRecord.free

/-- RETIRE. -/
def ownRetire (s : State) (ps : List Byte) : Reply :=
  match readKey ps with
  | none => s.refuse .badParam
  | some key =>
    match s.resolve key with
    | none => s.refuse .notFound
    | some i => { state := s.retireSlot i, status := .ok, results := s.packSlotAndId i }

/-- RETIRE. -/
def execRetire (s : State) : Result := serve 0x11 (exactly 5) ownRetire s

/-! ### SET_ADMIN (R55, R56) -/

/-- The target state from its code; FREE and codes outside the set are neither (R55). -/
def targetOf : Nat → Option Admin
  | 1 => some .active
  | 2 => some .suspended
  | _ => none

/-- An ACTIVE record suspended (R55). -/
def State.suspend (s : State) (i : Slot) : State :=
  let s := s.leaveList i (s.record i).band
  let s := { s with downlink := s.downlink.removeEntry i }
  s.modRecord i fun r => { r with admin := .suspended }

/-- A SUSPENDED record started afresh (R56). -/
def BinRecord.reactivated (r : BinRecord) (c : ClassDesc) (now : Word32) : BinRecord :=
  { r with
    admin := .active, ring := { r.ring with occupancy := 0 }, estimate := none, candidates := [], band := .low, bandSince := now,
    visitMark := false, lastSequence := none, lastArrival := none, bestRssi := none, lanesHeard := 0, liveness := .awaiting, missed := 0,
    recovery := 0, lastHeard := now, attempts := c.maxAttempts, pendingFlag := false }

/-- The record moved to the target state; nothing changes where it holds it already (R55, R56). -/
def State.setAdmin (s : State) (i : Slot) (target : Admin) : State :=
  if (s.record i).admin = target then s
  else if target = .suspended then s.suspend i
  else s.modRecord i fun r => r.reactivated (s.classOf i) s.mgmt.secs

/-- SET_ADMIN. -/
def ownSetAdmin (s : State) (ps : List Byte) : Reply :=
  match readKey ps, targetOf (read8 ps 5) with
  | some key, some target =>
    match s.resolve key with
    | none => s.refuse .notFound
    | some i => { state := s.setAdmin i target, status := .ok, results := s.packSlotAndId i ++ pack8 target.code }
  | _, _ => s.refuse .badParam

/-- SET_ADMIN. -/
def execSetAdmin (s : State) : Result := serve 0x12 (exactly 6) ownSetAdmin s

/-! ### CONFIRM_VISIT (R102) -/

/-- The visit mark set and the slot taken off the list (R102). -/
def State.confirmVisit (s : State) (i : Slot) : State :=
  (s.leaveList i (s.record i).band).modRecord i fun r => { r with visitMark := true }

/-- CONFIRM_VISIT. -/
def ownConfirmVisit (s : State) (ps : List Byte) : Reply :=
  match readKey ps with
  | none => s.refuse .badParam
  | some key =>
    match s.resolve key with
    | none => s.refuse .notFound
    | some i =>
      let r := s.record i
      if r.admin = .active then
        { state := s.confirmVisit i, status := .ok,
          results := s.packSlotAndId i ++ pack8 r.band.code ++ packOpt 2 pack16 r.estimate ++ packFlag r.links.isSome }
      else s.refuse .wrongState

/-- CONFIRM_VISIT. -/
def execConfirmVisit (s : State) : Result := serve 0x13 (exactly 5) ownConfirmVisit s

/-! ### READ_BIN and READ_BIN_RANGE (R92, R175, R176) -/

/-- The clear-status option at a record (R92). -/
def State.clearClamps (s : State) (i : Slot) : State := s.modRecord i fun r => { r with lowClamp := false, highClamp := false }

/-- READ_BIN. -/
def ownReadBin (s : State) (ps : List Byte) : Reply :=
  match readKey ps, readSwitch ps 5 with
  | some key, some clear =>
    match s.resolve key with
    | none => s.refuse .notFound
    | some i =>
      { state := if clear then s.clearClamps i else s, status := .ok, results := packBinRecord i (s.record i) }
  | _, _ => s.refuse .badParam

/-- READ_BIN. -/
def execReadBin (s : State) : Result := serve 0x30 (exactly 6) ownReadBin s

/-- The slots that a READ_BIN_RANGE reads: at most count of them from the start, none beyond 8191. -/
def rangeSlots (start count : Nat) : List Slot := (List.range count).filterMap fun k => slotOf (start + k)

/-- READ_BIN_RANGE. -/
def ownReadBinRange (s : State) (ps : List Byte) : Reply :=
  let start := read16 ps 0
  let count := read8 ps 2
  if 8191 < start ∨ count = 0 ∨ 40 < count then s.refuse .badParam
  else
    let slots := rangeSlots start count
    { state := s, status := .ok, results := pack8 slots.length ++ (slots.map fun i => packRangeEntry i (s.record i)).flatten }

/-- READ_BIN_RANGE. -/
def execReadBinRange (s : State) : Result := serve 0x31 (exactly 3) ownReadBinRange s

/-! ### READ_VISIT_LIST (R111, R112) -/

/-- A Visit List selection (R111). -/
inductive Selection where
  | full | near | both
  deriving DecidableEq, Repr

/-- A selection from its code. -/
def selectionOf : Nat → Option Selection
  | 0 => some .full
  | 1 => some .near
  | 2 => some .both
  | _ => none

/-- The slots of a selection in read order (R111). -/
def VisitList.ordered (v : VisitList) : Selection → List Slot
  | .full => bandOrder v.full
  | .near => bandOrder v.near
  | .both => bandOrder v.full ++ bandOrder v.near

/-- The total of a selection (R109). -/
def VisitList.total (v : VisitList) : Selection → Nat
  | .full => v.fullCount
  | .near => v.nearCount
  | .both => v.fullCount + v.nearCount

/-- The window of a READ_VISIT_LIST: epoch, total, number returned, entries (R112). -/
def State.packWindow (s : State) (sel : Selection) (start maximum : Nat) : List Byte :=
  let n := min maximum (s.visits.total sel - start)
  let window := ((s.visits.ordered sel).drop start).take n
  pack16 s.visits.epoch.toNat ++ pack16 (s.visits.total sel) ++ pack8 n ++
    (window.zipIdx.map fun e => packVisitEntry (start + e.2) e.1 (s.record e.1)).flatten

/-- READ_VISIT_LIST. -/
def ownReadVisitList (s : State) (ps : List Byte) : Reply :=
  let start := read16 ps 1
  let maximum := read8 ps 3
  match selectionOf (read8 ps 0) with
  | none => s.refuse .badParam
  | some sel =>
    if 8191 < start ∨ maximum = 0 ∨ 24 < maximum then s.refuse .badParam
    else { state := s, status := .ok, results := s.packWindow sel start maximum }

/-- READ_VISIT_LIST. -/
def execReadVisitList (s : State) : Result := serve 0x32 (exactly 4) ownReadVisitList s

/-! ### READ_DISCOVERY (R62, R177) -/

/-- READ_DISCOVERY. -/
def ownReadDiscovery (s : State) (ps : List Byte) : Reply :=
  match readSwitch ps 0 with
  | none => s.refuse .badParam
  | some clear =>
    { state := if clear then { s with bins := { s.bins with discovery := [] } } else s
      status := .ok
      results := pack8 s.bins.discovery.length ++ (s.bins.discovery.map DiscoveryEntry.pack).flatten }

/-- READ_DISCOVERY. -/
def execReadDiscovery (s : State) : Result := serve 0x33 (exactly 1) ownReadDiscovery s

end Sys2Proof.Machine
end

