-- ==== Sys2Proof/Machine/Statistics.lean ====
section
/-! DEFINITION. Chapter 11: the groups of READ_COUNTERS and their clearing, the statistics interval, the advance of the Second Count (R150, R168, R181, R118), and FLUSH_DIGEST (R152). -/

namespace Sys2Proof.Machine

/-! ### READ_COUNTERS (R178, R184 to R186) -/

/-- The groups of READ_COUNTERS. -/
inductive CounterGroup where
  | bin (slot : Slot)
  | lane | filter | copy | binProcessing | fill | downlink | egress | interval
  deriving DecidableEq, Repr

/-- A group from its number (R184). -/
def groupOf (n : Nat) : Option CounterGroup :=
  match slotOf n with
  | some i => some (.bin i)
  | none =>
    match n with
    | 8192 => some .lane
    | 8193 => some .filter
    | 8194 => some .copy
    | 8195 => some .binProcessing
    | 8196 => some .fill
    | 8197 => some .downlink
    | 8198 => some .egress
    | 8199 => some .interval
    | _ => none

/-- The counters of the LANE group for one lane. -/
def LaneCounters.pack (c : LaneCounters) : List Byte :=
  pack32 c.frames ++ pack32 c.runts ++ pack32 c.oversize ++ pack32 c.disabledDrops ++ pack32 c.fifoDrops ++ pack32 c.fcsErrors ++
    pack32 c.erroredIntervals ++ pack32 c.severeIntervals

/-- The state of the LANE group for one lane. -/
def LaneState.packStats (x : LaneState) (enable : Bool) : List Byte :=
  packFlag enable ++ pack8 x.health.code ++ pack8 x.quietRun ++ pack8 x.degradedRun ++ pack8 x.cleanRun ++ pack32 x.frameTally ++
    pack32 x.errorTally

/-- A lane snapshot. -/
def Snapshot.pack (p : Snapshot) : List Byte :=
  pack32 p.frames ++ pack32 p.errors ++ pack8 (snapshotClassCode p.cls) ++ pack32 p.interval

/-- Counters, then state, of a group, in the order of the table of R184. -/
def State.packGroup (s : State) (g : CounterGroup) : List Byte :=
  let c := s.stats.counters
  match g with
  | .bin i => (s.record i).counters.pack ++ pack8 (s.record i).admin.code ++ pack32 (s.record i).identifier.toNat
  | .lane =>
    (s.stats.laneCounters.toList.map LaneCounters.pack).flatten ++
      ((List.finRange 4).map fun l => (s.lanes[l]).packStats s.mgmt.params.laneEnable[l]).flatten
  | .filter => (c.matched.toList.map pack32).flatten ++ pack32 c.defaultFrames ++ pack32 c.lengthFailures
  | .copy => pack32 c.copiesMerged ++ pack32 c.evictions ++ pack8 s.copies.length
  | .binProcessing =>
    pack32 c.unknowns ++ pack32 c.discoveryOverflows ++ pack32 c.repeats ++ pack32 c.stale ++ pack32 c.restarts ++ pack32 c.mismatches ++
      pack8 s.bins.discovery.length
  | .fill => pack32 c.rejected ++ pack32 c.marked ++ pack32 c.collections ++ pack32 c.clamps
  | .downlink =>
    pack32 c.handed ++ pack32 c.expired ++ pack32 c.failed ++ pack32 c.dropped ++ pack32 c.downlinkDrops ++
      pack8 s.downlink.queue.length ++ pack8 s.downlink.frames.length ++ pack8 (if s.downlink.tx.isSome then 1 else 0)
  | .egress =>
    pack32 c.notices ++ pack32 c.lostNotices ++ pack32 c.digests ++ pack32 c.forwardDrops ++ pack32 c.managementDrops ++
      pack16 s.notices.queue.length ++ pack16 s.notices.lost ++ pack16 s.notices.digestSequence.toNat ++ pack8 s.egress.forward.length
  | .interval =>
    pack32 s.stats.intervalCount ++ pack32 s.stats.lastEnd.toNat ++ pack16 s.stats.timer ++ pack16 s.mgmt.params.interval ++
      (s.stats.snapshots.toList.map Snapshot.pack).flatten

/-- Every counter of a group zeroed; no state is cleared (R185, R186). -/
def State.clearGroup (s : State) (g : CounterGroup) : State :=
  match g with
  | .bin i => s.modBinCounters i fun _ => BinCounters.zero
  | .lane => { s with stats := { s.stats with laneCounters := Vector.replicate 4 LaneCounters.zero } }
  | .filter => s.modCounters fun c => { c with matched := Vector.replicate 16 0, defaultFrames := 0, lengthFailures := 0 }
  | .copy => s.modCounters fun c => { c with copiesMerged := 0, evictions := 0 }
  | .binProcessing =>
    s.modCounters fun c => { c with unknowns := 0, discoveryOverflows := 0, repeats := 0, stale := 0, restarts := 0, mismatches := 0 }
  | .fill => s.modCounters fun c => { c with rejected := 0, marked := 0, collections := 0, clamps := 0 }
  | .downlink => s.modCounters fun c => { c with handed := 0, expired := 0, failed := 0, dropped := 0, downlinkDrops := 0 }
  | .egress => s.modCounters fun c => { c with notices := 0, lostNotices := 0, digests := 0, forwardDrops := 0, managementDrops := 0 }
  | .interval => s

/-- A BIN group whose slot is FREE (R184). -/
def State.groupFree (s : State) : CounterGroup → Bool
  | .bin i => (s.record i).admin == .free
  | _ => false

/-- READ_COUNTERS. -/
def ownReadCounters (s : State) (ps : List Byte) : Reply :=
  match groupOf (read16 ps 0), readSwitch ps 2 with
  | some g, some clear =>
    if s.groupFree g then s.refuse .notFound
    else
      { state := if clear then s.clearGroup g else s
        status := .ok
        results := pack16 (read16 ps 0) ++ packFlag clear ++ pack32 s.mgmt.secs.toNat ++ s.packGroup g }
  | _, _ => s.refuse .badParam

/-- READ_COUNTERS. -/
def execReadCounters (s : State) : Result := serve 0x34 (exactly 3) ownReadCounters s

/-! ### FLUSH_DIGEST (R152) -/

/-- FLUSH_DIGEST. -/
def ownFlushDigest (s : State) (_ : List Byte) : Reply :=
  let n := s.notices.queue.length
  { state := { s with notices := { s.notices with flushPending := true, flushRemaining := n } }
    status := .ok
    results := pack16 n ++ pack16 s.notices.digestSequence.toNat }

/-- FLUSH_DIGEST. -/
def execFlushDigest (s : State) : Result := serve 0x35 (exactly 0) ownFlushDigest s

/-! ### The advance of the Second Count -/

/-- The notices age by one (R150). -/
def NoticeUnit.age (u : NoticeUnit) : NoticeUnit :=
  { u with queue := u.queue.map fun q => { q with holdAge := satAdd Config.maxHoldAge 1 q.holdAge } }

/-- The next advance of the Second Count brings the interval timer to S, or finds it beyond a lowered S (R181, R182). -/
def State.reachesInterval (s : State) : Bool := decide (s.mgmt.params.interval ≤ s.stats.timer + 1)

/-- An interval end: the timer back at 0, the end counted, timed by the Second Count and announced to the four lanes, at one event
(R181, R183). -/
def State.endInterval (s : State) : State :=
  { s with
    stats := { s.stats with timer := 0, intervalCount := inc32 s.stats.intervalCount, lastEnd := s.mgmt.secs }
    lanes := mapLanes s.lanes fun x => { x with announced := true } }

/-- What the previous advance brought about has been taken, so that the Second Count may advance again (assumption 4). -/
def State.settled (s : State) : Bool := !s.sweep.mustEnd && s.lanes.toList.all fun x => !x.announced

/-- The Millisecond Count has made the 1000 advances of a second (R168). -/
def State.secondReady (s : State) : Bool := s.settled && decide (Config.msPerSecond ≤ s.mgmt.phase)

/-- Time at an advance of the Second Count: the 1000th advance of the Millisecond Count since the last. The advances of the Millisecond
Count that still lack when the event is commanded are made with it (R168, assumption 4). -/
def Mgmt.advance (m : Mgmt) : Mgmt :=
  { m with ms := m.ms + BitVec.ofNat 32 (Config.msPerSecond - m.phase), secs := m.secs + 1, phase := 0 }

/-- An advance of the Second Count, with the pass start and the interval end that it brings about (R118, R150, R168, R181). -/
def State.advanceSecond (s : State) : State :=
  let ends := s.reachesInterval
  let s := { s with mgmt := s.mgmt.advance, notices := s.notices.age, sweep := s.sweep.count s.mgmt.params.passPeriod }
  if ends then s.endInterval else { s with stats := { s.stats with timer := s.stats.timer + 1 } }

/-- SECOND_ADVANCE (R118, R150, R168, R181). -/
def execSecondAdvance (s : State) : Result := .next (if s.settled then s.advanceSecond else s)

/-- INTERVAL_END: the advance of the Second Count that brings the interval timer to S (R181, R183, assumption 4). -/
def execIntervalEnd (s : State) : Result := .next (if s.settled ∧ s.reachesInterval then s.advanceSecond else s)

/-- PASS_START: the advance of the Second Count that brings the pass timer to P (R118, assumption 4). -/
def execPassStart (s : State) : Result := .next (if s.settled ∧ s.sweep.reachesPass then s.advanceSecond else s)

end Sys2Proof.Machine
end

