-- ==== Sys2Proof/Machine/Samples.lean ====
section
/-! DEFINITION. Chapter 4, with the stages of chapters 5 to 8 in their order: a Sample worked at its Bin Record in one operation, merge notes, and the Discovery List. -/

namespace Sys2Proof.Machine

/-! ### The Discovery List (R60, R61) -/

/-- A repeat sighting of a listed identifier (R60). -/
def DiscoveryEntry.sighted (e : DiscoveryEntry) (now : Word32) (filter : Index16) : DiscoveryEntry :=
  { e with lastHeard := now, count := inc16 e.count, filter := filter }

/-- A Sample whose identifier is unknown (R60, R61). -/
def State.discover (s : State) (x : Sample) : State :=
  let s := s.modCounters fun c => { c with unknowns := inc32 c.unknowns }
  if s.bins.discovery.any (fun e => e.identifier == x.identifier) then
    { s with bins := { s.bins with discovery := s.bins.discovery.map fun e =>
        if e.identifier = x.identifier then e.sighted s.mgmt.secs x.filter else e } }
  else if s.bins.discovery.length < Config.discoverySize then
    let entry : DiscoveryEntry :=
      { identifier := x.identifier, firstHeard := s.mgmt.secs, lastHeard := s.mgmt.secs, count := 1, filter := x.filter }
    let s := { s with bins := { s.bins with discovery := s.bins.discovery ++ [entry] } }
    s.notify { time := s.mgmt.secs, slot := none, identifier := some x.identifier, body := .discovered x.filter x.lane x.rssi }
  else
    s.modCounters fun c => { c with discoveryOverflows := inc32 c.discoveryOverflows }

/-! ### Identity (R64, R65) -/

/-- A Sample through another filter than the profile filter: not applied (R64). -/
def State.profileMismatch (s : State) (i : Slot) (x : Sample) : State :=
  let r := s.record i
  let run := satAdd Config.maxIdentityRun 1 r.mismatchRun
  let turns := r.identity = .matched ∧ run = Config.maxIdentityRun
  let s := s.modRecord i fun r =>
    { r with
      mismatchRun := run
      matchRun := 0
      identity := if turns then .mismatched else r.identity
      counters := { r.counters with mismatches := inc16 r.counters.mismatches } }
  let s := s.modCounters fun c => { c with mismatches := inc32 c.mismatches }
  if turns then s.notifySlot i (.identity .matched .mismatched x.filter r.profileFilter) else s

/-- A Sample through the profile filter (R65). -/
def State.profileMatch (s : State) (i : Slot) (x : Sample) : State :=
  let r := s.record i
  if r.identity = .matched then s.modRecord i fun r => { r with mismatchRun := 0 }
  else
    let run := satAdd Config.maxIdentityRun 1 r.matchRun
    if run = Config.maxIdentityRun then
      let s := s.modRecord i fun r => { r with mismatchRun := 0, matchRun := 0, identity := .matched }
      s.notifySlot i (.identity .mismatched .matched x.filter r.profileFilter)
    else s.modRecord i fun r => { r with mismatchRun := 0, matchRun := run }

/-! ### The sequence check (R66 to R68) -/

/-- What the sequence check finds (R66). -/
inductive SeqVerdict where
  /-- No sequence accepted before. -/
  | first
  /-- A forward gap, 1 to 32767. -/
  | forward (gap : Nat)
  /-- A backward gap with the RESTART flag SET. -/
  | restart (last : Word16)
  /-- Gap 0. -/
  | repeated
  /-- A backward gap without it. -/
  | stale
  deriving DecidableEq, Repr

/-- The sequence check of a Sample against the last accepted sequence (R66). -/
def sequenceCheck (last : Option Word16) (x : Sample) : SeqVerdict :=
  match last with
  | none => .first
  | some n =>
    let gap := (x.sequence - n).toNat
    if gap = 0 then .repeated
    else if gap ≤ 32767 then .forward gap
    else if x.restart = some true then .restart n
    else .stale

/-- The acceptance update (R66, R68). -/
def State.accept (s : State) (i : Slot) (x : Sample) (skipped : Nat) : State :=
  s.modRecord i fun r =>
    { r with
      lastSequence := some x.sequence
      lastArrival := some x.arrival
      lanesHeard := BitVec.ofNat 4 (2 ^ x.lane.val)
      bestRssi := some x.rssi
      counters := { r.counters with
        applied := inc16 r.counters.applied
        missedByGap := satAdd Config.max16 skipped r.counters.missedByGap } }

/-- A Sample accepted as a sensor restart: counted and noticed (R67). -/
def State.sensorRestart (s : State) (i : Slot) (last : Word16) (x : Sample) : State :=
  let s := s.modCounters fun c => { c with restarts := inc32 c.restarts }
  s.notifySlot i (.event .restart .occurred none (some last) (some x.sequence))

/-! ### Heard, and the event latches (R69 to R71) -/

/-- The change of a latch that follows a flag: `some` of its new value, or none (R69). -/
def latchChange (flag : Option Bool) (latch : Bool) : Option Bool :=
  match flag with
  | some f => if f = latch then none else some f
  | none => none

/-- The change of the HEAT latch (R70). -/
def heatChange (threshold : Int) (temperature : Option Int) (latch : Bool) : Option Bool :=
  match temperature with
  | none => none
  | some t =>
    if threshold = 127 then (if latch then some false else none)
    else if latch then (if t ≤ threshold - 5 then some false else none)
    else if threshold ≤ t then some true
    else none

/-- The notice of a latch's change. -/
def changeOf (v : Bool) : EventChange := if v then .set else .cleared

/-- The LID latch (R69). -/
def State.lidLatch (s : State) (i : Slot) (x : Sample) : State :=
  match latchChange x.lid (s.record i).lid with
  | none => s
  | some v => (s.modRecord i fun r => { r with lid := v }).notifySlot i (.event .lid (changeOf v) none none none)

/-- The TILT latch (R69). -/
def State.tiltLatch (s : State) (i : Slot) (x : Sample) : State :=
  match latchChange x.tilt (s.record i).tilt with
  | none => s
  | some v => (s.modRecord i fun r => { r with tilt := v }).notifySlot i (.event .tilt (changeOf v) none none none)

/-- SHATTER, noticed each time and not latched (R70). -/
def State.shatterEvent (s : State) (i : Slot) (x : Sample) : State :=
  if x.shatter = some true then s.notifySlot i (.event .shatter .occurred none none none) else s

/-- The HEAT latch (R70). -/
def State.heatLatch (s : State) (i : Slot) (x : Sample) : State :=
  match heatChange (s.classOf i).heatThreshold x.temperature (s.record i).heat with
  | none => s
  | some v => (s.modRecord i fun r => { r with heat := v }).notifySlot i (.event .heat (changeOf v) x.temperature none none)

/-- The heard update and the latches in their order (R70, R71). -/
def State.heard (s : State) (i : Slot) (x : Sample) : State :=
  let s := s.modRecord i fun r => { r with lastHeard := s.mgmt.secs }
  (((s.lidLatch i x).tiltLatch i x).shatterEvent i x).heatLatch i x

/-! ### Stages S4 to S8 and what follows (R84 to R93) -/

/-- A collection (R85). -/
def State.collect (s : State) (i : Slot) (fill : Nat) : State :=
  let r := s.record i
  let s := s.notifySlot i (.collected r.estimate fill r.band (if r.visitMark then .visit else .drop))
  let s := s.leaveList i r.band
  let s := s.modRecord i fun x =>
    { x with
      ring := x.ring.restart fill
      lowClamp := false
      highClamp := false
      candidates := []
      band := .low
      bandSince := if r.band = .low then x.bandSince else s.mgmt.secs
      visitMark := false
      counters := { x.counters with collections := inc16 x.counters.collections } }
  s.modCounters fun c => { c with collections := inc32 c.collections }

/-- S6 and S7: the value chosen and pushed (R87, R88). -/
def State.storeFill (s : State) (i : Slot) (fill : Nat) : State :=
  let c := s.classOf i
  s.modRecord i fun r => { r with ring := r.ring.push c.ringLength (valueToStore c r.ring fill) }

/-- S8, band confirmation and the restoration: the way of every APPLIED outcome (R93). -/
def State.applied (s : State) (i : Slot) : State :=
  let s := s.estimate i
  let s := s.confirm i ((s.record i).estimate.getD 0)
  s.restore i

/-- A rise rejection (R86). -/
def State.rejectRise (s : State) (i : Slot) : State :=
  let s := s.modBinCounters i fun c => { c with rejected := inc16 c.rejected }
  let s := s.modCounters fun c => { c with rejected := inc32 c.rejected }
  s.unusableReading i (some .rise)

/-- S3 to S8 of an unmarked reading, and what follows it; `before` is the liveness before the arrival (R83 to R93). -/
def State.workFill (s : State) (i : Slot) (distance : Nat) (before : Liveness) : State :=
  let c := s.classOf i
  let r := s.record i
  let fill := curveFill s.stores.curves[c.curvePage] distance
  if r.visitMark ∨ fallCollects c r.ring fill then (s.collect i fill).applied i
  else if riseRejected c r.ring before fill then s.rejectRise i
  else (s.storeFill i fill).applied i

/-! ### The operation (R59, R63) -/

/-- An accepted Sample from S1 on (R71, R80 to R82). -/
def State.workAccepted (s : State) (i : Slot) (x : Sample) (contiguous : Bool) : State :=
  let c := s.classOf i
  let distance := distanceOf x.kind x.raw x.temperature
  let fails := rangeFails c x.raw distance
  let tilted := decide (x.tilt = some true)
  let marked := fails || tilted
  let s :=
    if marked then
      (s.modBinCounters i fun k => { k with marked := inc16 k.marked }).modCounters fun k => { k with marked := inc32 k.marked }
    else s
  if fails && !tilted && decide (s.mgmt.params.rangePolicy = .drop) then s
  else
    let s := s.heard i x
    let old := (s.record i).liveness
    let s := s.arrival i contiguous
    if marked then s.unusableReading i (if tilted then none else some .range) else s.workFill i distance old

/-- The sequence check and the stages after it (R66 to R68). -/
def State.workSequence (s : State) (i : Slot) (x : Sample) : State :=
  match sequenceCheck (s.record i).lastSequence x with
  | .repeated =>
    (s.modBinCounters i fun c => { c with repeats := inc16 c.repeats }).modCounters fun c => { c with repeats := inc32 c.repeats }
  | .stale =>
    (s.modBinCounters i fun c => { c with stale := inc16 c.stale }).modCounters fun c => { c with stale := inc32 c.stale }
  | .first => (s.accept i x 0).workAccepted i x false
  | .forward gap => (s.accept i x (gap - 1)).workAccepted i x (decide (gap = 1))
  | .restart last => ((s.sensorRestart i last x).accept i x 0).workAccepted i x false

/-- A Sample at a provisioned slot (R59, R63). -/
def State.workSlot (s : State) (i : Slot) (x : Sample) : State :=
  let s := s.modBinCounters i fun c => { c with received := inc16 c.received }
  if (s.record i).admin = .active then
    if x.filter = (s.record i).profileFilter then (s.profileMatch i x).workSequence i x else s.profileMismatch i x
  else s

/-- A Sample at the Bin Processor (R59). -/
def State.workSample (s : State) (x : Sample) : State :=
  match s.lookup x.identifier with
  | none => s.discover x
  | some i => s.workSlot i x

/-! ### Merge notes (R42) -/

/-- The record at a merge note. -/
def BinRecord.noted (r : BinRecord) (x : Sample) : BinRecord :=
  let r := { r with counters := { r.counters with merged := inc16 r.counters.merged } }
  if r.admin = .active ∧ r.lastSequence = some x.sequence then
    { r with
      lanesHeard := r.lanesHeard ||| BitVec.ofNat 4 (2 ^ x.lane.val)
      bestRssi := some (match r.bestRssi with | some b => max b x.rssi | none => x.rssi) }
  else r

/-- A merge note at the Bin Processor; it carries the Sample's identifier, sequence, lane and RSSI. -/
def State.mergeNote (s : State) (x : Sample) : State :=
  match s.lookup x.identifier with
  | none => s
  | some i => s.modRecord i fun r => r.noted x

end Sys2Proof.Machine
end

