-- ==== Sys2Proof/Machine/Take.lean ====
section
/-! DEFINITION. Chapters 2 and 3 joined: the Frame Classifier's take, which ends with the Copy Merger's taking of the Sample and the work it brings about (R18, R38, R58), and the expiry of a copy window. -/

namespace Sys2Proof.Machine

/-! ### The Copy Merger (R37 to R41) -/

/-- An entry placed in order of expiry, after every entry whose expiry is at or before its own (R37). -/
def placeCopy (e : CopyEntry) : List CopyEntry → List CopyEntry
  | [] => [e]
  | x :: rest => if before e.expiry x.expiry then e :: x :: rest else x :: placeCopy e rest

/-- The entry is that of an identifier and sequence (R38). -/
def CopyEntry.isOf (e : CopyEntry) (identifier : Word32) (sequence : Word16) : Bool :=
  e.identifier == identifier && e.sequence == sequence

/-- A full set evicts its first entry (R40). -/
def State.evictIfFull (s : State) : State :=
  if Config.copySetSize ≤ s.copies.length then
    { s with copies := s.copies.tail }.modCounters fun c => { c with evictions := inc32 c.evictions }
  else s

/-- The entry of a first copy (R39). -/
def State.copyEntry (s : State) (x : Sample) : CopyEntry :=
  { identifier := x.identifier, sequence := x.sequence, expiry := x.arrival + BitVec.ofNat 32 s.mgmt.params.copyWindow }

/-- A Sample at the Copy Merger (R38 to R41). -/
def State.mergeSample (s : State) (x : Sample) : State :=
  if s.copies.any (fun e => e.isOf x.identifier x.sequence) then
    (s.modCounters fun c => { c with copiesMerged := inc32 c.copiesMerged }).mergeNote x
  else
    let s := s.evictIfFull
    { s with copies := placeCopy (s.copyEntry x) s.copies }.workSample x

/-- COPY_EXPIRY (R43). -/
def execCopyExpiry (identifier : Word32) (sequence : Word16) (s : State) : Result :=
  .next { s with copies := s.copies.filter fun e => !(e.isOf identifier sequence && atOrAfter s.mgmt.ms e.expiry) }

/-! ### The take (R18 to R31) -/

/-- A frame handed to the Forward FIFO by the classifier. -/
def State.forwardFrame (s : State) (l : Lane) (f : LaneFrame) (mark : Mark) : State :=
  s.forwardJoin { lane := l, rssi := f.rssi, arrival := f.arrival, mark := mark, bytes := f.bytes }

/-- A frame that fails the decode check (R30, R31). -/
def State.lengthFailure (s : State) (l : Lane) (f : LaneFrame) (andForward : Bool) : State :=
  let s := s.modCounters fun c => { c with lengthFailures := inc32 c.lengthFailures }
  if andForward ∨ s.mgmt.params.lengthPolicy = .forwardMarked then s.forwardFrame l f .length else s

/-- A bin report decoded through the head's layout (R28). The record and the Sample go to different blocks. -/
def State.binReport (s : State) (l : Lane) (f : LaneFrame) (h : Index16) (layout : Layout) (andForward : Bool) : State :=
  if layout.decodes f.bytes then
    let s := if andForward then s.forwardFrame l f .none else s
    s.mergeSample (layout.sample l f h)
  else s.lengthFailure l f andForward

/-- A frame disposed of under its matching filter's action (R25, R27, R28). -/
def State.matchedFrame (s : State) (l : Lane) (f : LaneFrame) (h : Index16) : State :=
  let filter := s.classifier.filters[h]
  let s := s.modCounters fun c => { c with matched := c.matched.set h (inc32 c.matched[h]) }
  match filter.action with
  | .forward => s.forwardFrame l f .none
  | .discard => s
  | .binReport => s.binReport l f h s.classifier.layouts[filter.layout] false
  | .binReportAndForward => s.binReport l f h s.classifier.layouts[filter.layout] true

/-- A frame that matches no chain (R26). -/
def State.unmatchedFrame (s : State) (l : Lane) (f : LaneFrame) : State :=
  let s := s.modCounters fun c => { c with defaultFrames := inc32 c.defaultFrames }
  match s.mgmt.params.defaultAction with
  | .forward => s.forwardFrame l f .none
  | .discard => s

/-- A frame classified under the processing state (R20, R25, R26). -/
def State.classify (s : State) (l : Lane) (f : LaneFrame) : State :=
  if s.mgmt.running then
    match s.classifier.matchingFilter f.bytes with
    | some h => s.matchedFrame l f h
    | none => s.unmatchedFrame l f
  else s.forwardFrame l f .none

/-- The head of a lane FIFO removed and the pointer set to the lane (R7, R19). -/
def State.popLane (s : State) (l : Lane) : State :=
  { s.modLane l fun x => { x with fifo := x.fifo.tail } with classifier := { s.classifier with pointer := l } }

/-- TAKE: the first lane in turn with a frame is served; with all FIFOs empty the classifier waits (R18, R19). -/
def execTake (s : State) : Result :=
  .next (
    match s.laneToServe with
    | none => s
    | some l =>
      match s.lanes[l].fifo with
      | [] => s
      | f :: _ => (s.popLane l).classify l f)

end Sys2Proof.Machine
end

