-- ==== Sys2Proof/Machine/Own.lean ====
section
/-! DEFINITION. What the part does when no command waits (assumption 2): the first of its own events that can be taken, in the fixed order below; when there is none, an advance of the Millisecond Count. Commands can bring the same events about in any order. -/

namespace Sys2Proof.Machine

/-- The command that takes a request of a command code (section 12.3). -/
def requestCommand (code : Byte) : Instr :=
  if code = 0x01 then .identify else if code = 0x02 then .start else if code = 0x03 then .stop else if code = 0x04 then .restart
  else if code = 0x05 then .setTime else if code = 0x06 then .setParams else if code = 0x10 then .provision
  else if code = 0x11 then .retire else if code = 0x12 then .setAdmin else if code = 0x13 then .confirmVisit
  else if code = 0x20 then .loadClass else if code = 0x21 then .readClass else if code = 0x22 then .loadCurve
  else if code = 0x23 then .loadKernel else if code = 0x24 then .loadFilter else if code = 0x25 then .loadLayout
  else if code = 0x30 then .readBin else if code = 0x31 then .readBinRange else if code = 0x32 then .readVisitList
  else if code = 0x33 then .readDiscovery else if code = 0x34 then .readCounters else if code = 0x35 then .flushDigest
  else .badCommandRequest

/-- The request at the head, while the Response FIFO has a free place (R166). -/
def State.ownRequest (s : State) : Option Instr :=
  match s.mgmt.requests with
  | [] => none
  | q :: _ => if s.egress.responses.length < Config.responseFifoDepth then some (requestCommand q.code) else none

/-- The Egress Arbiter's grant (R158). -/
def State.ownGrant (s : State) : Option Instr :=
  s.egressChoice.map fun c => match c with | .response => .responseGrant | .digest => .digestGrant | .forward => .forwardGrant

/-- The part's own events in the order in which an idle part looks for them; `none` where one cannot be taken. -/
def State.ownEvents (s : State) : List (Option Instr) :=
  [ s.laneToServe.map fun _ => .take,
    s.ownRequest,
    (s.copies.find? fun e => atOrAfter s.mgmt.ms e.expiry).map fun e => .copyExpiry e.identifier e.sequence,
    (s.downlink.queue.find? fun e => e.becomesDue s.mgmt.ms).map fun e => .entryDue e.slot,
    if s.sendTimedOut then some .transmitTimeout else none,
    s.txChoice.map fun _ => .reMeasureHandover,
    s.passThroughChoice.map fun _ => .passThroughHandover,
    (s.downlink.queue.find? fun e => e.expires s.mgmt.ms).map fun e => .entryExpiry e.slot,
    s.ownGrant,
    ((List.finRange 4).find? fun l => s.lanes[l].announced).map fun l => .laneIntervalEnd l,
    s.sweep.position.map fun _ => .sweepVisit,
    if s.secondReady then some .secondAdvance else none ]

/-- The first of the part's own events that can be taken. -/
def State.ownEvent (s : State) : Option Instr := s.ownEvents.findSome? id

/-- An advance of the Millisecond Count (00_scope.md, "Time"). -/
def State.tick (s : State) : State := { s with mgmt := { s.mgmt with ms := s.mgmt.ms + 1, phase := s.mgmt.phase + 1 } }

end Sys2Proof.Machine
end

