-- ==== Sys2Proof/Machine/Tables.lean ====
section
/-! DEFINITION. The loads and reads of the Class Table, the Curve Store, the Kernel Store, the Pattern Filter Table and the Layout Table (chapters 2 and 5). -/

namespace Sys2Proof.Machine

/-- LOAD_CLASS: checked whole, then the descriptor replaced and loaded (R73). -/
def ownLoadClass (s : State) (ps : List Byte) : Reply :=
  match readIndex ps 0, readClass ps with
  | some n, some c =>
    if c.inRange ∧ c.related then
      { state := { s with stores := { s.stores with classes := s.stores.classes.set n c } }, status := .ok, results := [] }
    else s.refuse .badParam
  | _, _ => s.refuse .badParam

/-- LOAD_CLASS. -/
def execLoadClass (s : State) : Result := serve 0x20 (exactly 38) ownLoadClass s

/-- READ_CLASS (R73). -/
def ownReadClass (s : State) (ps : List Byte) : Reply :=
  match readIndex ps 0 with
  | some n => { state := s, status := .ok, results := (s.classDesc n).pack }
  | none => s.refuse .badParam

/-- READ_CLASS. -/
def execReadClass (s : State) : Result := serve 0x21 (exactly 1) ownReadClass s

/-- LOAD_CURVE: a fill above 1000 is stored as 1000, answered CLAMPED (R75). -/
def ownLoadCurve (s : State) (ps : List Byte) : Reply :=
  match readIndex ps 0 with
  | some n =>
    if read16 ps 1 ≤ 8191 ∧ 3 ≤ read8 ps 3 ∧ read8 ps 3 ≤ 8 then
      let fills := readFills ps
      let page : CurvePage :=
        { origin := read16 ps 1, exponent := read8 ps 3, points := ⟨⟨fills.toList.map fun f => min Config.maxFill f⟩, by simp⟩ }
      { state := { s with stores := { s.stores with curves := s.stores.curves.set n page } }
        status := if fills.toList.all (fun f => decide (f ≤ Config.maxFill)) then .ok else .clamped
        results := [] }
    else s.refuse .badParam
  | none => s.refuse .badParam

/-- LOAD_CURVE. -/
def execLoadCurve (s : State) : Result := serve 0x22 (exactly 70) ownLoadCurve s

/-- The count agrees with the length: 2 + 2 × count bytes (R167). -/
def kernelFits (ps : List Byte) : Bool := ps.length == 2 + 2 * read8 ps 1 && decide (2 ≤ ps.length)

/-- Coefficients written to consecutive positions (R76). -/
def writeCoefficients (k : Vector Int 128) (start : Nat) (l : List Int) : Vector Int 128 :=
  ⟨⟨(List.range 128).map fun p => if start ≤ p ∧ p < start + l.length then l.getD (p - start) 0 else k.toList.getD p 0⟩, by simp⟩

/-- LOAD_KERNEL (R76). -/
def ownLoadKernel (s : State) (ps : List Byte) : Reply :=
  let l := readCoefficients ps
  let start := read8 ps 0
  if l.length = 0 ∨ 32 < l.length ∨ 127 < start ∨ 128 < start + l.length then s.refuse .badParam
  else
    { state := { s with stores := { s.stores with kernel := writeCoefficients s.stores.kernel start l } }, status := .ok, results := [] }

/-- LOAD_KERNEL. -/
def execLoadKernel (s : State) : Result := serve 0x23 kernelFits ownLoadKernel s

/-- The classifier with a filter replaced. -/
def Classifier.setFilter (c : Classifier) (n : Index16) (f : Filter) : Classifier := { c with filters := c.filters.set n f }

/-- LOAD_FILTER; every response past the length check carries the filter number (R21). -/
def ownLoadFilter (s : State) (ps : List Byte) : Reply :=
  let number := pack8 (read8 ps 0)
  match readIndex ps 0, readFilter ps with
  | some n, some f =>
    let c := s.classifier.setFilter n f
    if (n.val = 15 ∧ f.cascade) ∨ c.chainsFit = false then { state := s, status := .badParam, results := number }
    else { state := { s with classifier := c }, status := .ok, results := number }
  | _, _ => { state := s, status := .badParam, results := number }

/-- LOAD_FILTER. -/
def execLoadFilter (s : State) : Result := serve 0x24 (exactly 12) ownLoadFilter s

/-- LOAD_LAYOUT (R29). -/
def ownLoadLayout (s : State) (ps : List Byte) : Reply :=
  match readIndex ps 0, readLayout ps with
  | some n, some y =>
    if y.minLength ≤ Config.maxFrame then
      { state := { s with classifier := { s.classifier with layouts := s.classifier.layouts.set n y } }, status := .ok, results := [] }
    else s.refuse .badParam
  | _, _ => s.refuse .badParam

/-- LOAD_LAYOUT. -/
def execLoadLayout (s : State) : Result := serve 0x25 (exactly 20) ownLoadLayout s

end Sys2Proof.Machine
end

