-- ==== Sys2Proof/Machine/Dispatch.lean ====
section
/-! DEFINITION. The meaning of each command, one arm per row of spec/opcode_table.json. -/

namespace Sys2Proof.Machine

def exec (i : Instr) (s : State) : Host.Outcome State Fault Refusal :=
  match i with
  | .frameArrival lane rssi bytes => Sys2Proof.Machine.execFrameArrival lane rssi bytes s
  | .laneIntervalEnd lane => Sys2Proof.Machine.execLaneIntervalEnd lane s
  | .take => Sys2Proof.Machine.execTake s
  | .copyExpiry identifier sequence => Sys2Proof.Machine.execCopyExpiry identifier sequence s
  | .entryDue slot => Sys2Proof.Machine.execEntryDue slot s
  | .entryExpiry slot => Sys2Proof.Machine.execEntryExpiry slot s
  | .reMeasureHandover => Sys2Proof.Machine.execReMeasureHandover s
  | .passThroughHandover => Sys2Proof.Machine.execPassThroughHandover s
  | .txDone => Sys2Proof.Machine.execTxDone s
  | .txFail => Sys2Proof.Machine.execTxFail s
  | .transmitTimeout => Sys2Proof.Machine.execTransmitTimeout s
  | .ingressFrame bytes => Sys2Proof.Machine.execIngressFrame bytes s
  | .identify => Sys2Proof.Machine.execIdentify s
  | .start => Sys2Proof.Machine.execStart s
  | .stop => Sys2Proof.Machine.execStop s
  | .restart => Sys2Proof.Machine.execRestart s
  | .setTime => Sys2Proof.Machine.execSetTime s
  | .setParams => Sys2Proof.Machine.execSetParams s
  | .provision => Sys2Proof.Machine.execProvision s
  | .retire => Sys2Proof.Machine.execRetire s
  | .setAdmin => Sys2Proof.Machine.execSetAdmin s
  | .confirmVisit => Sys2Proof.Machine.execConfirmVisit s
  | .loadClass => Sys2Proof.Machine.execLoadClass s
  | .readClass => Sys2Proof.Machine.execReadClass s
  | .loadCurve => Sys2Proof.Machine.execLoadCurve s
  | .loadKernel => Sys2Proof.Machine.execLoadKernel s
  | .loadFilter => Sys2Proof.Machine.execLoadFilter s
  | .loadLayout => Sys2Proof.Machine.execLoadLayout s
  | .readBin => Sys2Proof.Machine.execReadBin s
  | .readBinRange => Sys2Proof.Machine.execReadBinRange s
  | .readVisitList => Sys2Proof.Machine.execReadVisitList s
  | .readDiscovery => Sys2Proof.Machine.execReadDiscovery s
  | .readCounters => Sys2Proof.Machine.execReadCounters s
  | .flushDigest => Sys2Proof.Machine.execFlushDigest s
  | .secondAdvance => Sys2Proof.Machine.execSecondAdvance s
  | .passStart => Sys2Proof.Machine.execPassStart s
  | .sweepVisit => Sys2Proof.Machine.execSweepVisit s
  | .intervalEnd => Sys2Proof.Machine.execIntervalEnd s
  | .digestHoldDue => Sys2Proof.Machine.execDigestHoldDue s
  | .responseGrant => Sys2Proof.Machine.execResponseGrant s
  | .digestGrant => Sys2Proof.Machine.execDigestGrant s
  | .forwardGrant => Sys2Proof.Machine.execForwardGrant s
  | .egressDone => Sys2Proof.Machine.execEgressDone s
  | .powerOnReset => Sys2Proof.Machine.execPowerOnReset s
  | .secondStartMarker lane => Sys2Proof.Machine.execSecondStartMarker lane s
  | .badCommandRequest => Sys2Proof.Machine.execBadCommandRequest s

end Sys2Proof.Machine
end

