-- ==== Sys2Proof/Machine/Step.lean ====
section
/-! DEFINITION. One step of the part: the command at the front of the queue, or, when none waits, the part's own next event or an advance of the Millisecond Count. -/

namespace Sys2Proof.Machine

/-- A part that no command waits for (assumption 2). -/
def idle (s : State) : Result :=
  match s.ownEvent with
  | some c => exec c s
  | none => .next s.tick

/-- One step. -/
def step (s : State) : Host.Outcome State Fault Refusal :=
  match s.pending with
  | c :: rest => exec c { s with pending := rest }
  | [] => idle s

/-- The command that a word of the table spells put at the front of the queue; no row of the table has bits, so none is. -/
def State.withFetchWord (s : State) (nbits w : Nat) : State :=
  match decodeTableWord nbits w with
  | some c => { s with pending := c :: s.pending }
  | none => s

end Sys2Proof.Machine
end

