-- ==== Sys2Proof/Safety.lean ====
section
/-! DEFINITION. What counts as a sound state of the part: the manual's "device's laws", in the terms that statements use. Each is a predicate on State; statements say that it holds after power-on reset and that every step keeps it. -/

namespace Sys2Proof.Safety

open Sys2Proof.Machine

/-! ### Sizes (R6, R37, R60, R135, R141, R149, R155, R157, R159, R165) -/

/-- Every FIFO, queue and set holds at most its places. -/
structure SizesFit (s : State) : Prop where
  lanes : ∀ l : Lane, (s.lanes[l]).fifo.length ≤ Config.laneFifoDepth
  copies : s.copies.length ≤ Config.copySetSize
  discovery : s.bins.discovery.length ≤ Config.discoverySize
  queue : s.downlink.queue.length ≤ Config.requestQueueSize
  frames : s.downlink.frames.length ≤ Config.downlinkFifoDepth
  notices : s.notices.queue.length ≤ Config.noticeQueueSize
  responses : s.egress.responses.length ≤ Config.responseFifoDepth
  forward : s.egress.forward.length ≤ Config.forwardFifoDepth
  requests : s.mgmt.requests.length ≤ Config.requestFifoDepth
  starvation : s.egress.starvation ≤ Config.maxStarvation

/-! ### Frames (R3, R141, 09 section 9.4) -/

/-- A radio frame of permitted length. -/
def FrameLength (bytes : List Byte) : Prop := Config.minFrame ≤ bytes.length ∧ bytes.length ≤ Config.maxFrame

/-- Every frame held by a lane FIFO, the Forward FIFO and the Downlink Frame FIFO has 4 to 64 bytes. -/
structure FramesFit (s : State) : Prop where
  lanes : ∀ l : Lane, ∀ f ∈ (s.lanes[l]).fifo, FrameLength f.bytes
  forward : ∀ r ∈ s.egress.forward, FrameLength r.bytes
  downlink : ∀ f ∈ s.downlink.frames, FrameLength f

/-! ### Classes, filters and fills -/

/-- Every class descriptor satisfies the ranges and relations that LOAD_CLASS checks (R73). -/
def ClassesSound (s : State) : Prop := ∀ c : Index16, (s.classDesc c).inRange = true ∧ (s.classDesc c).related = true

/-- No cascade chain is longer than 4 filters (R21, R22). -/
def ChainsFit (s : State) : Prop := ∀ f : Index16, s.classifier.isHead f.val = true → (s.classifier.chain f.val).length ≤ 4

/-- Every curve value, every ring cell and every estimate lies within 0–1000 (R91). -/
structure FillsInRange (s : State) : Prop where
  curves : ∀ (p : Index16) (k : Fin 33), (s.stores.curves[p]).points[k] ≤ Config.maxFill
  cells : ∀ (i : Slot) (k : Index16), (s.record i).ring.cells[k] ≤ Config.maxFill
  estimates : ∀ (i : Slot) (e : Nat), (s.record i).estimate = some e → e ≤ Config.maxFill

/-- No ring's occupancy exceeds 16 (R88). -/
def RingsFit (s : State) : Prop := ∀ i : Slot, (s.record i).ring.occupancy ≤ 16

/-! ### Identifiers (R49, R60) -/

/-- The device's law on identifiers. -/
structure IdentifiersSound (s : State) : Prop where
  /-- No identifier is held by two slots. -/
  oneSlot : ∀ i j : Slot, (s.record i).admin ≠ .free → (s.record j).admin ≠ .free →
    (s.record i).identifier = (s.record j).identifier → i = j
  /-- Every valid way stands in its identifier's row and names a provisioned slot whose record carries it. -/
  wayNames : ∀ k : Fin 16384, (s.bins.directory[k]).valid = true →
    k.val / 4 = dirRow (s.bins.directory[k]).identifier ∧ (s.record (s.bins.directory[k]).slot).admin ≠ .free ∧
      (s.record (s.bins.directory[k]).slot).identifier = (s.bins.directory[k]).identifier
  /-- No identifier stands in two valid ways. -/
  oneWay : ∀ k m : Fin 16384, (s.bins.directory[k]).valid = true → (s.bins.directory[m]).valid = true →
    (s.bins.directory[k]).identifier = (s.bins.directory[m]).identifier → k = m
  /-- Every provisioned slot is found by its identifier. -/
  found : ∀ i : Slot, (s.record i).admin ≠ .free → s.lookup (s.record i).identifier = some i
  /-- The Discovery List holds no identifier twice, and none that the Bin Directory holds. -/
  discovery : (s.bins.discovery.map DiscoveryEntry.identifier).Nodup ∧ ∀ e ∈ s.bins.discovery, s.lookup e.identifier = none

/-! ### The Visit List (R104) -/

/-- The number of slots listed in a band. -/
def listed (v : Vector (List Slot) 63) : Nat := (v.toList.map List.length).sum

/-- The device's laws of membership and of counts. -/
structure VisitListSound (s : State) : Prop where
  /-- Listed exactly when ACTIVE, without visit mark, and in band NEAR or FULL. -/
  membership : ∀ i : Slot, (s.record i).links.isSome = true ↔
    ((s.record i).admin = .active ∧ (s.record i).visitMark = false ∧ (s.record i).band ≠ .low)
  /-- The links name the slot's place, in the bucket of its estimate and band. -/
  place : ∀ (i : Slot) (k : VisitLinks), (s.record i).links = some k →
    (s.visits.bucket (s.record i).band k.bucket)[k.position]? = some i ∧ ∃ e, (s.record i).estimate = some e ∧ k.bucket = bucketOf e
  /-- A slot stands nowhere else. -/
  once : ∀ (b : Band) (k : Bucket) (p : Nat) (i : Slot), (s.visits.bucket b k)[p]? = some i →
    (s.record i).band = b ∧ (s.record i).links = some { bucket := k, position := p }
  /-- The counts are the numbers of listed slots. -/
  counts : s.visits.fullCount = listed s.visits.full ∧ s.visits.nearCount = listed s.visits.near

/-! ### Re-measures (R134, R135) -/

/-- The device's law on the Downlink Request Queue. -/
structure QueueSound (s : State) : Prop where
  onePerSlot : (s.downlink.queue.map ReEntry.slot).Nodup
  entries : ∀ e ∈ s.downlink.queue,
    (s.record e.slot).admin = .active ∧ (s.record e.slot).identifier = e.identifier ∧ 1 ≤ (s.record e.slot).attempts

/-! ### Copies (R37) -/

/-- The Recent Copy Set never holds two entries with the same identifier and sequence. -/
def CopiesDistinct (s : State) : Prop := (s.copies.map fun e => (e.identifier, e.sequence)).Nodup

/-! ### Processing state and time (R118, R126, R145, R168) -/

/-- The pass timer runs exactly in RUNNING; in STANDBY no pass is in progress and no re-measure is queued; at most 1000 advances
of the Millisecond Count have passed since the last of the Second Count. -/
structure ProcessingSound (s : State) : Prop where
  timer : s.sweep.timer.isSome = s.mgmt.running
  standby : s.mgmt.running = false → s.sweep.position = none ∧ s.downlink.queue = []
  phase : s.mgmt.phase ≤ Config.msPerSecond

/-! ### Counters (R180) -/

/-- Every per-bin counter is at most its maximum. -/
def BinCountersFit (c : BinCounters) : Prop :=
  c.received ≤ Config.max16 ∧ c.applied ≤ Config.max16 ∧ c.merged ≤ Config.max16 ∧ c.missedByGap ≤ Config.max16 ∧
  c.repeats ≤ Config.max16 ∧ c.stale ≤ Config.max16 ∧ c.mismatches ≤ Config.max16 ∧ c.rejected ≤ Config.max16 ∧
  c.marked ≤ Config.max16 ∧ c.collections ≤ Config.max16

/-- The per-bin counters hold 0 to 65,535. -/
def CountersFit (s : State) : Prop := ∀ i : Slot, BinCountersFit (s.record i).counters

/-! ### What a take meets -/

/-- The next take serves lane `l` and takes frame `f`. -/
def Takes (s : State) (l : Lane) (f : LaneFrame) : Prop := s.laneToServe = some l ∧ (s.lanes[l]).fifo.head? = some f

/-- The next take, in RUNNING, yields the Sample `x` of frame `f` from lane `l`, matched by filter `h`, under either action that reports. -/
def Reports (s : State) (l : Lane) (f : LaneFrame) (h : Index16) (x : Sample) : Prop :=
  Takes s l f ∧ s.mgmt.running = true ∧ s.classifier.matchingFilter f.bytes = some h ∧
    ((s.classifier.filters[h]).action = .binReport ∨ (s.classifier.filters[h]).action = .binReportAndForward) ∧
    (s.classifier.layouts[(s.classifier.filters[h]).layout]).decodes f.bytes = true ∧
    x = (s.classifier.layouts[(s.classifier.filters[h]).layout]).sample l f h

/-- The Management Unit takes request `q`, whose command code is `code`, next (R166). -/
def Requests (s : State) (code : Byte) (q : Request) : Prop :=
  s.mgmt.requests.head? = some q ∧ q.code = code ∧ s.egress.responses.length < Config.responseFifoDepth

/-! ### What an advance of the Second Count leaves (R118, R150, R168, R181, R183) -/

/-- From `s` the Second Count has advanced to `t`: time and hold ages, the pass timer with the pass that starts at P, and the interval timer
with the interval that ends at S; nothing else has changed. -/
structure SecondAdvanced (s t : State) : Prop where
  time : t.mgmt = { s.mgmt with ms := s.mgmt.ms + BitVec.ofNat 32 (1000 - s.mgmt.phase), secs := s.mgmt.secs + 1, phase := 0 }
  holdAges : t.notices = { s.notices with queue := s.notices.queue.map fun n => { n with holdAge := min 60 (n.holdAge + 1) } }
  stopped : s.sweep.timer = none → t.sweep = s.sweep
  counts : ∀ n, s.sweep.timer = some n → n + 1 < s.sweep.period → t.sweep = { s.sweep with timer := some (n + 1) }
  passStarts : ∀ n, s.sweep.timer = some n → s.sweep.period ≤ n + 1 →
    t.sweep = { position := some 0, timer := some 0, period := s.mgmt.params.passPeriod }
  interval : s.stats.timer + 1 < s.mgmt.params.interval → t.stats = { s.stats with timer := s.stats.timer + 1 } ∧ t.lanes = s.lanes
  intervalEnds : s.mgmt.params.interval ≤ s.stats.timer + 1 →
    t.stats =
        { s.stats with timer := 0, intervalCount := min 4294967295 (s.stats.intervalCount + 1), lastEnd := s.mgmt.secs + 1 } ∧
      ∀ l : Lane, t.lanes[l] = { s.lanes[l] with announced := true }
  rest : t = { s with mgmt := t.mgmt, notices := t.notices, sweep := t.sweep, stats := t.stats, lanes := t.lanes }

/-! ### What commands leave, in the manual's words -/

/-- The head request taken and answered, and nothing else changed (R166). -/
def answered (s : State) (q : Request) (status : Status) (results : List Byte) : State :=
  { s with
    mgmt := { s.mgmt with requests := s.mgmt.requests.tail }
    egress := { s.egress with
      responses := s.egress.responses ++ [{ tag := q.tag, code := q.code, status := status, results := results }] } }

/-- The parameter bytes of a selector and key (12, section 12.3). -/
def keyBytes : BinKey → List Byte
  | .byIdentifier id => pack8 0 ++ pack32 id.toNat
  | .bySlot i => pack8 1 ++ pack32 i.val

/-- The code of a filter's action (12, R189). -/
def actionCode : FilterAction → Nat
  | .binReport => 0 | .binReportAndForward => 1 | .forward => 2 | .discard => 3

/-- The parameter bytes of LOAD_FILTER (12, R189). -/
def filterBytes (n : Nat) (f : Filter) : List Byte :=
  pack8 n ++ packFlag f.enable ++ pack8 f.offset ++ pack16 f.mask.toNat ++ pack16 f.signature.toNat ++ packFlag f.lastCheck ++
    [f.lastValue] ++ packFlag f.cascade ++ pack8 (actionCode f.action) ++ pack8 f.layout.val

/-- The code of a byte order (12, R189). -/
def orderCode : ByteOrder → Nat
  | .big => 0 | .little => 1

/-- The code of a measure kind (12, R189). -/
def kindCode : MeasureKind → Nat
  | .tofUs => 0 | .distMm => 1

/-- The parameter bytes of LOAD_LAYOUT (12, R189). -/
def layoutBytes (n : Nat) (y : Layout) : List Byte :=
  pack8 n ++ pack8 y.idOffset ++ pack8 (orderCode y.idOrder) ++ pack8 y.seqOffset ++ pack8 (orderCode y.seqOrder) ++
    pack8 y.measureOffset ++ pack8 (orderCode y.measureOrder) ++ pack8 (kindCode y.kind) ++ packOpt 1 pack8 y.temperature ++
    packOpt 1 pack8 y.flags ++ packOpt 1 pack8 y.lid ++ packOpt 1 pack8 y.tilt ++ packOpt 1 pack8 y.restart ++ packOpt 1 pack8 y.shatter

/-- Every present offset is at most 63 and every present flag position at most 7 (R29). -/
def LayoutInRange (y : Layout) : Prop :=
  y.idOffset ≤ 63 ∧ y.seqOffset ≤ 63 ∧ y.measureOffset ≤ 63 ∧ (∀ p ∈ y.temperature, p ≤ 63) ∧ (∀ p ∈ y.flags, p ≤ 63) ∧
    (∀ p ∈ y.lid, p ≤ 7) ∧ (∀ p ∈ y.tilt, p ≤ 7) ∧ (∀ p ∈ y.restart, p ≤ 7) ∧ ∀ p ∈ y.shatter, p ≤ 7

/-- The key names the provisioned slot `i` (R50, R54). -/
def Names (s : State) (key : BinKey) (i : Slot) : Prop :=
  match key with
  | .byIdentifier id => s.lookup id = some i
  | .bySlot j => j = i ∧ (s.record i).admin ≠ .free

/-- The key names no provisioned slot. -/
def NamesNone (s : State) (key : BinKey) : Prop :=
  match key with
  | .byIdentifier id => s.lookup id = none
  | .bySlot j => (s.record j).admin = .free

/-- The head frame of lane `l` taken: its FIFO one shorter, the pointer at the lane (R7, R19). -/
def taken (s : State) (l : Lane) : State :=
  { s with
    lanes := s.lanes.set l { s.lanes[l] with fifo := (s.lanes[l]).fifo.tail }
    classifier := { s.classifier with pointer := l } }

/-- The head frame of lane `l` taken and counted at its matching filter (R25). -/
def takenAt (s : State) (l : Lane) (h : Index16) : State :=
  let c := s.stats.counters
  { taken s l with stats := { s.stats with counters := { c with matched := c.matched.set h (inc32 c.matched[h]) } } }

/-- A frame's forwarded record (09, section 9.4). -/
def recordOf (l : Lane) (f : LaneFrame) (mark : Mark) : ForwardRecord :=
  { lane := l, rssi := f.rssi, arrival := f.arrival, mark := mark, bytes := f.bytes }

/-- The head frame of lane `l` taken as a bin report, and forwarded too under BIN_REPORT_AND_FORWARD (R28). -/
def reported (s : State) (l : Lane) (f : LaneFrame) (h : Index16) : State :=
  if (s.classifier.filters[h]).action = .binReportAndForward then (takenAt s l h).forwardJoin (recordOf l f .none) else takenAt s l h

/-- The head frame of lane `l` taken as a bin report, and the entry of its first copy made (R39). -/
def firstCopy (s : State) (l : Lane) (f : LaneFrame) (h : Index16) (x : Sample) : State :=
  { reported s l f h with
    copies := placeCopy
      { identifier := x.identifier, sequence := x.sequence, expiry := x.arrival + BitVec.ofNat 32 s.mgmt.params.copyWindow } s.copies }

/-- The next take yields the Sample `x` as a first copy, with a free place in the Recent Copy Set (R38, R39). -/
def ReportsFirst (s : State) (l : Lane) (f : LaneFrame) (h : Index16) (x : Sample) : Prop :=
  Reports s l f h x ∧ (∀ e ∈ s.copies, ¬(e.identifier = x.identifier ∧ e.sequence = x.sequence)) ∧ s.copies.length < Config.copySetSize

/-- The record of slot `j` once slot `i` has left the Visit List: the slots behind it in its bucket are one place nearer (R107). -/
def recordAfterLeave (s : State) (i j : Slot) : BinRecord :=
  let r := s.record j
  if j = i then { r with links := none }
  else
    match (s.record i).links, r.links with
    | some k, some m =>
      if r.band = (s.record i).band ∧ m.bucket = k.bucket ∧ k.position < m.position then
        { r with links := some { bucket := m.bucket, position := m.position - 1 } }
      else r
    | _, _ => r

/-- The Visit List once slot `i` has left it; unchanged where the slot is not listed (R107). -/
def visitsAfterLeave (s : State) (i : Slot) : VisitList :=
  let v := s.visits
  match (s.record i).links, (s.record i).band with
  | some k, .full => { v with full := v.full.set k.bucket ((v.full[k.bucket]).erase i), fullCount := v.fullCount - 1, epoch := v.epoch + 1 }
  | some k, .near => { v with near := v.near.set k.bucket ((v.near[k.bucket]).erase i), nearCount := v.nearCount - 1, epoch := v.epoch + 1 }
  | _, _ => v

/-- The Visit List once slot `i` has joined the tail of bucket `k` of band `b` (R106). -/
def visitsAfterJoin (v : VisitList) (i : Slot) (b : Band) (k : Bucket) : VisitList :=
  match b with
  | .full => { v with full := v.full.set k (v.full[k] ++ [i]), fullCount := v.fullCount + 1, epoch := v.epoch + 1 }
  | .near => { v with near := v.near.set k (v.near[k] ++ [i]), nearCount := v.nearCount + 1, epoch := v.epoch + 1 }
  | .low => v

end Sys2Proof.Safety
end

