-- ==== Sys2Proof/Certificates/Slice0/Obligations.lean ====
section
/-! DEFINITION. The statements for the provers: what the manual's numbered rules say of the commands, each over every state that meets its hypotheses, with the whole next state given. -/

open Sys2Proof Sys2Proof.Machine Sys2Proof.Safety

/-! ### Steps -/

/-- A step takes the command at the front of the queue and runs it on the state with the queue's rest. -/
def Obligations.StepRunsTheFrontCommand : Prop :=
  ∀ (c : Instr) (s : State), step { s with pending := c :: s.pending } = exec c s

/-- No command stops the part, and none touches the commands that wait. That a command whose event cannot happen still answers a next state
is the model's choice (assumption 1), and so is that the waiting commands survive a power-on reset (assumption 15). -/
def Obligations.EveryCommandAnswersANextState : Prop :=
  ∀ (c : Instr) (s : State), ∃ t, exec c s = .next t ∧ t.pending = s.pending

/-- The model's choice for an empty queue (assumption 2): the part takes its own event, and with none to take the Millisecond Count
advances by one (00_scope.md, "Time"). -/
def Obligations.IdleStepTakesOwnEventOrAdvancesTime : Prop :=
  ∀ s : State, s.pending = [] →
    (∀ c, s.ownEvent = some c → step s = exec c s) ∧
    (s.ownEvent = none → step s = .next { s with mgmt := { s.mgmt with ms := s.mgmt.ms + 1, phase := s.mgmt.phase + 1 } })

/-! ### Power-on reset -/

/-- The values that power-on reset leaves (R17, R36, R47, R72, R77, R115, R130, R146, R163, R179, R187; the
directory's ways in 4.1). -/
def Obligations.PowerOnResetLeavesTheManualsValues : Prop :=
  ∀ s : State, ∃ t, exec .powerOnReset s = .next t ∧ t.pending = s.pending ∧
    (∀ l : Lane, (t.lanes[l]).fifo = [] ∧ (t.lanes[l]).health = .normal ∧ (t.lanes[l]).quietRun = 0 ∧ (t.lanes[l]).degradedRun = 0 ∧
      (t.lanes[l]).cleanRun = 0 ∧ (t.lanes[l]).frameTally = 0 ∧ (t.lanes[l]).errorTally = 0) ∧
    t.classifier.pointer = 3 ∧ (∀ f : Index16, t.classifier.filters[f] = Filter.initial) ∧
    (∀ y : Index16, t.classifier.layouts[y] = Layout.initial) ∧
    t.copies = [] ∧ (∀ k : Fin 16384, t.bins.directory[k] = { valid := false, identifier := 0, slot := 0 }) ∧ (∀ i : Slot, t.record i = BinRecord.free) ∧
    t.bins.discovery = [] ∧
    (∀ c : Index16, t.classDesc c = ClassDesc.initial) ∧ (∀ p : Index16, t.stores.curves[p] = CurvePage.initial) ∧
    (∀ k : Fin 128, t.stores.kernel[k] = 0) ∧
    (∀ k : Bucket, t.visits.full[k] = [] ∧ t.visits.near[k] = []) ∧ t.visits.fullCount = 0 ∧ t.visits.nearCount = 0 ∧
    t.visits.epoch = 0 ∧ t.sweep.position = none ∧ t.sweep.timer = none ∧
    t.downlink = { queue := [], frames := [], tx := none } ∧
    t.notices = { queue := [], lost := 0, digestSequence := 0, flushPending := false, flushRemaining := 0 } ∧
    t.egress = { responses := [], forward := [], link := none, starvation := 0 } ∧
    t.mgmt.requests = [] ∧ t.mgmt.running = false ∧ t.mgmt.ms = 0 ∧ t.mgmt.secs = 0 ∧ t.mgmt.params = Params.initial ∧
    (∀ l : Lane, t.stats.laneCounters[l] = LaneCounters.zero ∧ t.stats.snapshots[l] = Snapshot.initial) ∧
    t.stats.counters = Counters.zero ∧ t.stats.timer = 0 ∧ t.stats.intervalCount = 0 ∧ t.stats.lastEnd = 0

/-- The state after power-on reset meets every law that the statements below say each step keeps. -/
def Obligations.LawsHoldAfterReset : Prop :=
  SizesFit State.reset ∧ FramesFit State.reset ∧ ClassesSound State.reset ∧ ChainsFit State.reset ∧ FillsInRange State.reset ∧
    RingsFit State.reset ∧ IdentifiersSound State.reset ∧ VisitListSound State.reset ∧ QueueSound State.reset ∧
    CopiesDistinct State.reset ∧ ProcessingSound State.reset ∧ CountersFit State.reset

/-! ### The device's laws, kept by every step -/

/-- Every FIFO, queue and set keeps to its places, every frame held to 4 to 64 bytes, and the Recent Copy Set never holds an identifier and
sequence twice. -/
def Obligations.EveryStepKeepsSizesAndCopies : Prop :=
  ∀ s t : State, SizesFit s ∧ FramesFit s ∧ CopiesDistinct s → step s = .next t → SizesFit t ∧ FramesFit t ∧ CopiesDistinct t

/-- Class descriptors keep the ranges and relations of LOAD_CLASS, and cascade chains their four filters. -/
def Obligations.EveryStepKeepsClassesAndChains : Prop :=
  ∀ s t : State, ClassesSound s ∧ ChainsFit s → step s = .next t → ClassesSound t ∧ ChainsFit t

/-- Curve values, ring cells and estimates stay within 0 to 1000, and ring occupancies within 16. -/
def Obligations.EveryStepKeepsFillsInRange : Prop :=
  ∀ s t : State, ClassesSound s ∧ FillsInRange s ∧ RingsFit s → step s = .next t → ClassesSound t ∧ FillsInRange t ∧ RingsFit t

/-- The law on identifiers: directory, records and Discovery List agree. -/
def Obligations.EveryStepKeepsIdentifiers : Prop :=
  ∀ s t : State, IdentifiersSound s → step s = .next t → IdentifiersSound t

/-- The laws of membership and of counts of the Visit List. -/
def Obligations.EveryStepKeepsTheVisitList : Prop :=
  ∀ s t : State, VisitListSound s → step s = .next t → VisitListSound t

/-- The law on re-measures: one entry per slot, each for an ACTIVE record with its identifier and an attempt left. -/
def Obligations.EveryStepKeepsTheRequestQueue : Prop :=
  ∀ s t : State, ClassesSound s ∧ QueueSound s → step s = .next t → ClassesSound t ∧ QueueSound t

/-- The pass timer runs in RUNNING alone; in STANDBY there is no pass and no re-measure; a second has at most 1000 milliseconds. -/
def Obligations.EveryStepKeepsProcessingState : Prop :=
  ∀ s t : State, ProcessingSound s → step s = .next t → ProcessingSound t

/-- The per-bin counters never leave 0 to 65,535. -/
def Obligations.EveryStepKeepsCountersWithinRange : Prop :=
  ∀ s t : State, CountersFit s → step s = .next t → CountersFit t

/-! ### The fill computation -/

/-- S1 (R79): the distance of a time of flight is half the path at the speed of the working temperature, rounded with halves upward. -/
def Obligations.TimeOfFlightGivesRoundedDistance : Prop :=
  ∀ (raw : Nat) (temperature : Option Int), raw ≤ 65535 →
    let w : Int :=
      match temperature with
      | none => 20
      | some t => if t < -40 then -40 else if 85 < t then 85 else t
    let d : Int := distanceOf .tofUs raw temperature
    20000 * d ≤ raw * (3313 + 6 * w) + 10000 ∧ raw * (3313 + 6 * w) + 10000 < 20000 * (d + 1) ∧ d ≤ 12527

/-- S3 (R83): linear interpolation between neighbouring points, rounded to the nearest with halves upward, held at the end values. -/
def Obligations.CurveInterpolatesBetweenNeighbours : Prop :=
  ∀ (p : CurvePage) (d : Nat),
    (d < p.origin → curveFill p d = p.point 0) ∧
    (p.origin + 32 * 2 ^ p.exponent ≤ d → curveFill p d = p.point 32) ∧
    ∀ i r : Nat, i < 32 → r < 2 ^ p.exponent → d = p.origin + i * 2 ^ p.exponent + r →
      let step : Int := 2 ^ p.exponent
      let q : Int := ((p.point (i + 1) : Int) - p.point i) * r
      let rise : Int := (curveFill p d : Int) - p.point i
      (2 * q - step < 2 * step * rise ∧ 2 * step * rise ≤ 2 * q + step) ∧
        min (p.point i) (p.point (i + 1)) ≤ curveFill p d ∧ curveFill p d ≤ max (p.point i) (p.point (i + 1))

/-- S6 (R87): with the pre-filter ON and two stored values, the middle one of the fill, h0 and h1; otherwise the fill. -/
def Obligations.MedianIsTheMiddleOfThree : Prop :=
  ∀ (c : ClassDesc) (r : Ring) (fill : Nat),
    (c.median = true ∧ 2 ≤ r.occupancy →
      let l := [fill, r.cell 0, r.cell 1]
      valueToStore c r fill ∈ l ∧ 2 ≤ l.countP (fun x => decide (x ≤ valueToStore c r fill)) ∧
        2 ≤ l.countP (fun x => decide (valueToStore c r fill ≤ x))) ∧
    (¬(c.median = true ∧ 2 ≤ r.occupancy) → valueToStore c r fill = fill)

/-- S7 (R88): the value is written at the next head as the newest, the others one place older, the list cut to the ring length. -/
def Obligations.PushKeepsTheNewestValues : Prop :=
  ∀ (r : Ring) (len v : Nat), 1 ≤ len → len ≤ 16 → r.occupancy ≤ 16 →
    (r.push len v).stored = (v :: r.stored).take len ∧ (r.push len v).head = r.head + 1 ∧
      (r.push len v).occupancy = min (min r.occupancy len + 1) len

/-- S8 (R89): the settling mean, rounded with halves upward, written with the clamp flags as they are.

S8 (R90, R91): the rounded kernel value, or the nearer limit with its flag set and the clamps counter raised. -/
def Obligations.EstimateIsTheMeanOrTheClampedKernelValue : Prop :=
  (∀ (s : State) (i : Slot), 1 ≤ (s.record i).ring.occupancy → (s.record i).ring.occupancy < (s.classOf i).kernelLength →
     ∃ e, s.estimate i = s.setRecord i { s.record i with estimate := some e } ∧
       2 * (s.record i).ring.occupancy * e ≤ 2 * (s.record i).ring.stored.sum + (s.record i).ring.occupancy ∧
       2 * (s.record i).ring.stored.sum + (s.record i).ring.occupancy < 2 * (s.record i).ring.occupancy * (e + 1)) ∧
  (∀ (s : State) (i : Slot) (e : Int), (s.classOf i).kernelLength ≤ (s.record i).ring.occupancy →
     let r := s.record i
     let c := s.classOf i
     let acc : Int := ((List.range c.kernelLength).map fun k => s.stores.kernel.toList.getD (c.kernelStart + k) 0 * (r.ring.cell k : Int)).sum
     16384 * e ≤ acc + 8192 → acc + 8192 < 16384 * (e + 1) →
     (0 ≤ e ∧ e ≤ 1000 → s.estimate i = s.setRecord i { r with estimate := some e.toNat }) ∧
     (e < 0 → s.estimate i =
       (s.setRecord i { r with estimate := some 0, lowClamp := true }).modCounters fun k => { k with clamps := min 4294967295 (k.clamps + 1) }) ∧
     (1000 < e → s.estimate i =
       (s.setRecord i { r with estimate := some 1000, highClamp := true }).modCounters fun k =>
         { k with clamps := min 4294967295 (k.clamps + 1) }))

/-! ### Band confirmation and re-measure requests -/

/-- The candidate (R97) is the highest band that the estimate reaches, given the band held. -/
def Obligations.CandidateIsTheHighestBandReached : Prop :=
  ∀ (c : ClassDesc) (held : Band) (e : Nat),
    let reachesFull : Prop := c.fullOn ≤ e ∨ (held = .full ∧ (c.fullOn : Int) - c.hysteresis ≤ e)
    let reachesNear : Prop := c.nearOn ≤ e ∨ ((held = .near ∨ held = .full) ∧ (c.nearOn : Int) - c.hysteresis ≤ e)
    (reachesFull → candidateBand c held e = .full) ∧ (¬reachesFull → reachesNear → candidateBand c held e = .near) ∧
      (¬reachesFull → ¬reachesNear → candidateBand c held e = .low)

/-- The confirmation test (R99): to the highest band above with a majority at or above it, else to the lowest band below with a majority
at or below it, else no move; a majority of the list never qualifies both ways.

A run of band confirmation (R96, R98, R100): the candidate at the head of the list, the list cut to n_c, the band with its time and a BAND
notice where the test moves it, and the place in the Visit List reconciled.

The reconciliation (R105) of a slot whose band has become `b` in a list that was sound: JOIN (R106), LEAVE (R107), MOVE (R108) or nothing,
each with the links, the buckets, the counts (R109) and one step of the epoch (R110). That a slot leaves the list of the band that it held
before the change is the model's reading (assumption 22). -/
def Obligations.ConfirmationMovesBandListAndPlace : Prop :=
  (∀ (nC kC : Nat) (l : List Band) (held : Band), nC < 2 * kC → l.length ≤ nC →
    let up (b : Band) : Prop := held.rank < b.rank ∧ kC ≤ l.countP (fun x => decide (b.rank ≤ x.rank))
    let down (b : Band) : Prop := b.rank < held.rank ∧ kC ≤ l.countP (fun x => decide (x.rank ≤ b.rank))
    let new := confirmedBand kC l held
    ((∃ b, up b) → up new ∧ ∀ b, up b → b.rank ≤ new.rank) ∧
    ((∃ b, down b) → down new ∧ ∀ b, down b → new.rank ≤ b.rank) ∧
    ((¬∃ b, up b) → (¬∃ b, down b) → new = held) ∧ ¬((∃ b, up b) ∧ ∃ b, down b)) ∧
  (∀ (s : State) (i : Slot) (e : Nat),
    let r := s.record i
    let c := s.classOf i
    let list := (candidateBand c r.band e :: r.candidates).take c.nC
    let new := confirmedBand c.kC list r.band
    let written := s.setRecord i
      { r with candidates := list, band := new, bandSince := if new = r.band then r.bandSince else s.mgmt.secs }
    s.confirm i e = (if new = r.band then written else written.notify
      { time := s.mgmt.secs, slot := some i, identifier := some r.identifier, body := .band r.band new e }).reconcile i r.band e) ∧
  (∀ (s : State) (i : Slot) (b : Band) (e : Nat), VisitListSound s → e ≤ 1000 →
    let r := s.record i
    let t := (s.setRecord i { r with band := b }).reconcile i r.band e
    ∃ k : Bucket, k.val = e / 16 ∧
      (r.links = none → b = .low → t = s.setRecord i { r with band := b }) ∧
      (r.links = none → b ≠ .low → t =
        { s.setRecord i { r with band := b, links := some { bucket := k, position := (s.visits.bucket b k).length } } with
          visits := visitsAfterJoin s.visits i b k }) ∧
      (∀ m, r.links = some m →
        (b = r.band → m.bucket = k → t = s) ∧
        (b = .low → (∀ j ≠ i, t.record j = recordAfterLeave s i j) ∧ t.record i = { r with band := b, links := none } ∧
          t = { s with visits := visitsAfterLeave s i, bins := { s.bins with records := t.bins.records } }) ∧
        (b ≠ .low → b ≠ r.band ∨ m.bucket ≠ k →
          (∀ j ≠ i, t.record j = recordAfterLeave s i j) ∧
          t.record i =
            { r with band := b, links := some { bucket := k, position := ((visitsAfterLeave s i).bucket b k).length } } ∧
          t = { s with
            visits := { visitsAfterJoin (visitsAfterLeave s i) i b k with epoch := s.visits.epoch + 1 }
            bins := { s.bins with records := t.bins.records } })))

/-- A heard Sample (R69 to R71): last heard written, the LID, TILT and HEAT latches following the Sample, and an EVENT notice for each
change and for SHATTER, in the order LID, TILT, SHATTER, HEAT.

A reading that fails the RANGE check is counted and ends under DROP (R81); under MARK, or tilted (R82), it goes by the heard update and the
arrival to the re-measure handling.

A reading of the fill stages: a collection (R84, R85), a rise rejection (R86), or stored (R87, R88). A collection is noticed and counted, its
slot off the Visit List, the ring started again with the fill alone, candidates emptied, the band LOW, the mark cleared; that the fill is
written at the kept head is the model's reading (assumption 8).

The re-measure handling of a reading that is not stored (R132): nothing wanted, a SUSPECT declaration (R133), or a request (R134) that merges,
finds the queue full, or joins it with the window that follows the uplink. That an entry whose open time has come is DUE from its making is
the model's reading (assumption 9).

An APPLIED outcome (R93): the estimate, band confirmation with it, and the restoration (R131). -/
def Obligations.ReadingsAreHeardStoredOrSetAside : Prop :=
  (∀ (s : State) (i : Slot) (x : Sample),
    let r := s.record i
    let threshold := (s.classOf i).heatThreshold
    let follow (flag : Option Bool) (latch : Bool) : Bool := match flag with | some f => f | none => latch
    let heat : Bool :=
      match x.temperature with
      | none => r.heat
      | some d =>
        if threshold = 127 then false else if r.heat = true then decide (threshold - 5 < d) else decide (threshold ≤ d)
    let note (event : SensorEvent) (change : EventChange) (temperature : Option Int) : Notice :=
      { time := s.mgmt.secs, slot := some i, identifier := some r.identifier, body := .event event change temperature none none }
    let change (v : Bool) : EventChange := if v then .set else .cleared
    let notices : List Notice :=
      (if follow x.lid r.lid = r.lid then [] else [note .lid (change (follow x.lid r.lid)) none]) ++
      (if follow x.tilt r.tilt = r.tilt then [] else [note .tilt (change (follow x.tilt r.tilt)) none]) ++
      (if x.shatter = some true then [note .shatter .occurred none] else []) ++
      (if heat = r.heat then [] else [note .heat (change heat) x.temperature])
    s.heard i x = notices.foldl State.notify
      (s.setRecord i { r with lastHeard := s.mgmt.secs, lid := follow x.lid r.lid, tilt := follow x.tilt r.tilt, heat := heat })) ∧
  (∀ (s : State) (i : Slot) (x : Sample) (contiguous : Bool),
    let r := s.record i
    let c := s.classOf i
    let d := distanceOf x.kind x.raw x.temperature
    let fails : Prop := x.raw = 0 ∨ x.raw = 65535 ∨ d < c.minDistance ∨ c.maxDistance < d
    let marked := (s.setRecord i { r with counters := { r.counters with marked := min 65535 (r.counters.marked + 1) } }).modCounters fun k =>
      { k with marked := min 4294967295 (k.marked + 1) }
    (fails → x.tilt ≠ some true → s.mgmt.params.rangePolicy = .drop → s.workAccepted i x contiguous = marked) ∧
    (fails → x.tilt ≠ some true → s.mgmt.params.rangePolicy = .mark →
      s.workAccepted i x contiguous = ((marked.heard i x).arrival i contiguous).unusableReading i (some .range)) ∧
    (x.tilt = some true → s.workAccepted i x contiguous = ((marked.heard i x).arrival i contiguous).unusableReading i none) ∧
    (¬fails → x.tilt ≠ some true → s.workAccepted i x contiguous =
      ((s.heard i x).arrival i contiguous).workFill i d r.liveness)) ∧
  (∀ (s : State) (i : Slot) (distance : Nat) (before : Liveness),
    let r := s.record i
    let c := s.classOf i
    let fill := curveFill s.stores.curves[c.curvePage] distance
    let collects : Prop := r.visitMark = true ∨ (1 ≤ r.ring.occupancy ∧ fill + c.collectDrop ≤ r.ring.cell 0 ∧ fill ≤ c.collectFloor)
    let rises : Prop := 1 ≤ r.ring.occupancy ∧ before ≠ .silent ∧ before ≠ .recovering ∧ r.ring.cell 0 + c.maxRise < fill
    (collects → s.workFill i distance before = (s.collect i fill).applied i) ∧
    (¬collects → rises → s.workFill i distance before =
      ((s.setRecord i { r with counters := { r.counters with rejected := min 65535 (r.counters.rejected + 1) } }).modCounters fun k =>
        { k with rejected := min 4294967295 (k.rejected + 1) }).unusableReading i (some .rise)) ∧
    (¬collects → ¬rises → s.workFill i distance before =
      (s.setRecord i { r with ring := r.ring.push c.ringLength (valueToStore c r.ring fill) }).applied i)) ∧
  (∀ (s : State) (i : Slot) (fill : Nat), VisitListSound s →
    let r := s.record i
    let t := s.collect i fill
    t.record i =
      { r with
        ring := { r.ring with cells := r.ring.cells.set r.ring.head fill, occupancy := 1 }
        lowClamp := false, highClamp := false, candidates := [], band := .low
        bandSince := if r.band = .low then r.bandSince else s.mgmt.secs
        visitMark := false, links := none, counters := { r.counters with collections := min 65535 (r.counters.collections + 1) } } ∧
    (∀ j ≠ i, t.record j = recordAfterLeave s i j) ∧
    t = { (s.notify { time := s.mgmt.secs, slot := some i, identifier := some r.identifier
                      body := .collected r.estimate fill r.band (if r.visitMark then .visit else .drop) }).modCounters fun k =>
            { k with collections := min 4294967295 (k.collections + 1) } with
      visits := visitsAfterLeave s i, bins := { s.bins with records := t.bins.records } }) ∧
  (∀ (s : State) (i : Slot) (trigger : Option Trigger),
    let r := s.record i
    let c := s.classOf i
    let wanted : Prop := trigger ≠ none ∨ r.pendingFlag = true
    let settled := s.setRecord i { r with pendingFlag := false }
    let suspect := s.setRecord i { r with pendingFlag := false, sensor := .suspect }
    let cause : Trigger := match trigger with | some g => g | none => .pending
    (¬wanted ∨ c.reMeasure = false → s.unusableReading i trigger = s) ∧
    (wanted → c.reMeasure = true → r.attempts = 0 → r.sensor = .normal → s.unusableReading i trigger = suspect.notify
      { time := s.mgmt.secs, slot := some i, identifier := some r.identifier, body := .sensor .normal .suspect (some cause) 0 }) ∧
    (wanted → c.reMeasure = true → r.attempts = 0 → r.sensor = .suspect → s.unusableReading i trigger = settled) ∧
    (wanted → c.reMeasure = true → 1 ≤ r.attempts → (∃ e ∈ s.downlink.queue, e.slot = i) → s.unusableReading i trigger = settled) ∧
    (wanted → c.reMeasure = true → 1 ≤ r.attempts → (∀ e ∈ s.downlink.queue, e.slot ≠ i) → 32 ≤ s.downlink.queue.length →
      s.unusableReading i trigger = (s.setRecord i { r with pendingFlag := true }).modCounters fun k =>
        { k with dropped := min 4294967295 (k.dropped + 1) }) ∧
    (wanted → c.reMeasure = true → 1 ≤ r.attempts → (∀ e ∈ s.downlink.queue, e.slot ≠ i) → s.downlink.queue.length < 32 →
      ∀ arrival : Word32, r.lastArrival = some arrival →
      let opens := arrival + BitVec.ofNat 32 c.rxDelay
      let entry (state : EntryState) : ReEntry :=
        { slot := i, identifier := r.identifier, opens := opens, closes := opens + BitVec.ofNat 32 c.windowLength, state := state }
      ∃ state : EntryState, (state = .due ↔ (s.mgmt.ms - opens).toNat < 2147483648) ∧
        s.unusableReading i trigger = { settled with downlink := { s.downlink with queue := placeEntry (entry state) s.downlink.queue } })) ∧
  (∀ (s : State) (i : Slot),
    (∃ e, ((s.estimate i).record i).estimate = some e ∧ s.applied i = ((s.estimate i).confirm i e).restore i) ∧
    let r := s.record i
    let attempts := (s.classOf i).maxAttempts
    let restored := s.setRecord i { r with attempts := attempts, pendingFlag := false, sensor := .normal }
    (r.sensor = .normal → s.restore i = restored) ∧
    (r.sensor = .suspect → s.restore i = restored.notify
      { time := s.mgmt.secs, slot := some i, identifier := some r.identifier, body := .sensor .suspect .normal none attempts }))

/-! ### Queues that admit or count -/

/-- A notice (R149) joins the tail with hold age 0 and is counted, or at 512 is lost and counted as lost.

A forwarded record (R155) joins the tail of the Forward FIFO, or at 16 is dropped and counted. -/
def Obligations.NoticesAndForwardedRecordsJoinOrAreDropped : Prop :=
  (∀ (s : State) (n : Notice),
     (s.notices.queue.length < 512 → s.notify n =
       ({ s with notices := { s.notices with queue := s.notices.queue ++ [{ notice := n, holdAge := 0 }] } } : State).modCounters fun c =>
         { c with notices := min 4294967295 (c.notices + 1) }) ∧
     (512 ≤ s.notices.queue.length → s.notify n =
       ({ s with notices := { s.notices with lost := min 65535 (s.notices.lost + 1) } } : State).modCounters fun c =>
         { c with lostNotices := min 4294967295 (c.lostNotices + 1) })) ∧
  (∀ (s : State) (r : ForwardRecord),
     (s.egress.forward.length < 16 → s.forwardJoin r = { s with egress := { s.egress with forward := s.egress.forward ++ [r] } }) ∧
     (16 ≤ s.egress.forward.length → s.forwardJoin r = s.modCounters fun c => { c with forwardDrops := min 4294967295 (c.forwardDrops + 1) }))

/-! ### Receive lanes -/

/-- Arrivals on a disabled lane, runts and oversize frames (R1 to R3) move one counter of the lane and nothing else. A second start marker
leaves a runt. -/
def Obligations.ArrivalNotCheckedMovesOneCounter : Prop :=
  ∀ (s : State) (l : Lane) (rssi : Word16) (bytes : List Byte),
    (s.mgmt.params.laneEnable[l] = false →
      exec (.frameArrival l rssi bytes) s =
        .next (s.modLaneCounters l fun c => { c with disabledDrops := min 4294967295 (c.disabledDrops + 1) }) ∧
      exec (.secondStartMarker l) s =
        .next (s.modLaneCounters l fun c => { c with disabledDrops := min 4294967295 (c.disabledDrops + 1) })) ∧
    (s.mgmt.params.laneEnable[l] = true →
      (bytes.length < 4 → exec (.frameArrival l rssi bytes) s =
        .next (s.modLaneCounters l fun c => { c with runts := min 4294967295 (c.runts + 1) })) ∧
      (64 < bytes.length → exec (.frameArrival l rssi bytes) s =
        .next (s.modLaneCounters l fun c => { c with oversize := min 4294967295 (c.oversize + 1) })) ∧
      exec (.secondStartMarker l) s = .next (s.modLaneCounters l fun c => { c with runts := min 4294967295 (c.runts + 1) }))

/-- A frame whose last two bytes are the CRC of the rest (R3, R4, R6) is counted and joins its lane FIFO, with the RSSI brought into −150 to
0 (R1), or is a FIFO drop at 8 entries.

A frame of permitted length that fails the frame check (R4, R5): counted in both tallies, and under FORWARD-MARKED handed to the Forward
FIFO with the FCS-bad mark; the lane FIFO is as it was. -/
def Obligations.CheckedFrameJoinsBadFrameIsDropped : Prop :=
  (∀ (s : State) (l : Lane) (rssi : Word16) (body : List Byte),
     s.mgmt.params.laneEnable[l] = true → 2 ≤ body.length → body.length ≤ 62 →
     let bytes := body ++ pack16 (crc body).toNat
     let x := s.lanes[l]
     let level : Int := if 0 < rssi.toInt then 0 else if rssi.toInt < -150 then -150 else rssi.toInt
     (x.fifo.length < 8 → exec (.frameArrival l rssi bytes) s =
       .next ((s.modLane l fun x =>
           { x with
             fifo := x.fifo ++ [{ bytes := bytes, rssi := level, arrival := s.mgmt.ms }]
             frameTally := min 4294967295 (x.frameTally + 1) }).modLaneCounters l
         fun c => { c with frames := min 4294967295 (c.frames + 1) })) ∧
     (8 ≤ x.fifo.length → exec (.frameArrival l rssi bytes) s =
       .next ((s.modLane l fun x => { x with frameTally := min 4294967295 (x.frameTally + 1) }).modLaneCounters l
         fun c => { c with frames := min 4294967295 (c.frames + 1), fifoDrops := min 4294967295 (c.fifoDrops + 1) }))) ∧
  (∀ (s : State) (l : Lane) (rssi : Word16) (body : List Byte) (check : List Byte),
     s.mgmt.params.laneEnable[l] = true → 2 ≤ body.length → body.length ≤ 62 → check.length = 2 → check ≠ pack16 (crc body).toNat →
     let level : Int := if 0 < rssi.toInt then 0 else if rssi.toInt < -150 then -150 else rssi.toInt
     let counted := (s.modLane l fun x =>
         { x with frameTally := min 4294967295 (x.frameTally + 1), errorTally := min 4294967295 (x.errorTally + 1) }).modLaneCounters l
       fun c => { c with frames := min 4294967295 (c.frames + 1), fcsErrors := min 4294967295 (c.fcsErrors + 1) }
     (s.mgmt.params.fcsPolicy = .drop → exec (.frameArrival l rssi (body ++ check)) s = .next counted) ∧
     (s.mgmt.params.fcsPolicy = .forwardMarked → exec (.frameArrival l rssi (body ++ check)) s =
       .next (counted.forwardJoin { lane := l, rssi := level, arrival := s.mgmt.ms, mark := .fcsBad, bytes := body ++ check })))

/-- The interval end of an enabled lane (R11 to R16): the class, the runs, the health state, the snapshot, the interval counters, the zeroed
tallies, and a LANE notice where the health state changed. That the end waits as an announcement is the model's (assumption 4).

The interval end of a disabled lane (R8, R16): health, runs and tallies kept, no notice, no interval counter, a snapshot without a
class. -/
def Obligations.LaneIntervalEndJudgesOrPassesTheLane : Prop :=
  (∀ (s : State) (l : Lane), (s.lanes[l]).announced = true → s.mgmt.params.laneEnable[l] = true →
     let p := s.mgmt.params
     let x := s.lanes[l]
     let cls : IntervalClass :=
       if x.frameTally = 0 then .quiet
       else if 16 ≤ x.frameTally ∧ p.thr * x.frameTally ≤ x.errorTally * 1024 then .degraded
       else if 1 ≤ x.errorTally then .errored
       else .clean
     let quiet := if cls = .quiet then min 15 (x.quietRun + 1) else 0
     let degraded := if cls = .degraded then min 15 (x.degradedRun + 1) else 0
     let clean := if cls = .clean ∨ cls = .errored then min 15 (x.cleanRun + 1) else 0
     let health : Health :=
       match x.health with
       | .normal => if p.qOn ≤ quiet then .mute else if p.dOn ≤ degraded then .degraded else .normal
       | .degraded => if p.qOn ≤ quiet then .mute else if p.cOn ≤ clean then .normal else .degraded
       | .mute => if cls = .quiet then .mute else if cls = .degraded ∧ p.dOn = 1 then .degraded else .normal
     let judged : LaneState :=
       { x with
         health := health, quietRun := quiet, degradedRun := degraded, cleanRun := clean, frameTally := 0, errorTally := 0,
         announced := false }
     let snapshot : Snapshot :=
       { frames := x.frameTally, errors := x.errorTally, cls := some cls, interval := s.stats.intervalCount }
     let c := s.stats.laneCounters[l]
     let counters : LaneCounters :=
       { c with
         erroredIntervals := if cls = .errored ∨ cls = .degraded then min 4294967295 (c.erroredIntervals + 1) else c.erroredIntervals
         severeIntervals := if cls = .degraded then min 4294967295 (c.severeIntervals + 1) else c.severeIntervals }
     let t : State :=
       { s with
         lanes := s.lanes.set l judged
         stats := { s.stats with laneCounters := s.stats.laneCounters.set l counters, snapshots := s.stats.snapshots.set l snapshot } }
     exec (.laneIntervalEnd l) s = .next (
       if health = x.health then t
       else t.notify
         { time := s.mgmt.secs, slot := none, identifier := none, body := .lane l x.health health cls x.frameTally x.errorTally })) ∧
  (∀ (s : State) (l : Lane), (s.lanes[l]).announced = true → s.mgmt.params.laneEnable[l] = false →
     let x := s.lanes[l]
     exec (.laneIntervalEnd l) s = .next
       { s with
         lanes := s.lanes.set l { x with announced := false }
         stats := { s.stats with
           snapshots := s.stats.snapshots.set l
             { frames := x.frameTally, errors := x.errorTally, cls := none, interval := s.stats.intervalCount } } })

/-! ### Takes -/

/-- A take (R19) serves the first lane with a frame in cyclic order from the one after the pointer, removes its head and moves the pointer
to it, whatever becomes of the frame; the other lanes are as they were. -/
def Obligations.TakeServesTheLanesInTurn : Prop :=
  ∀ (s : State) (n : Lane), let l := s.classifier.pointer + 1 + n
    (∀ m : Lane, m < n → (s.lanes[s.classifier.pointer + 1 + m]).fifo = []) → (s.lanes[l]).fifo ≠ [] →
    ∃ t, exec .take s = .next t ∧ t.classifier = { s.classifier with pointer := l } ∧
      t.lanes = s.lanes.set l { s.lanes[l] with fifo := (s.lanes[l]).fifo.tail } ∧ t.mgmt = s.mgmt ∧ t.stores = s.stores ∧
      t.sweep = s.sweep

/-- The matching filter (R22 to R25) is the first chain head whose chain matches: enabled, selecting only bytes before the FCS, with the
signature as their CRC and the last-byte check met.

A chain is its head and, while cascade-to-next is ON, the filters that follow (R22); the positions that it selects are base + 16j + i for
each SET mask position i of its j-th member, in ascending order (R23). -/
def Obligations.FirstMatchingChainWins : Prop :=
  (∀ (c : Classifier) (frame : List Byte) (h : Index16),
    let matches_ (k : Index16) : Prop :=
      let head := c.filters[k]
      let positions := chainPositions (c.chain k.val) head.offset
      let selected := positions.map fun p => frame.getD p 0
      (k.val = 0 ∨ (c.filter (k.val - 1)).cascade = false) ∧ head.enable = true ∧ (∀ p ∈ positions, p + 2 < frame.length) ∧
        crc selected = head.signature ∧ (head.lastCheck = false ∨ selected.getLast? = some head.lastValue)
    (c.matchingFilter frame = some h ↔ matches_ h ∧ ∀ k < h, ¬matches_ k) ∧
    (c.matchingFilter frame = none ↔ ∀ k, ¬matches_ k)) ∧
  (∀ (c : Classifier) (h : Index16) (j : Nat) (m : Filter), (c.chain h.val)[j]? = some m ↔
    (∃ k : Index16, k.val = h.val + j ∧ m = c.filters[k]) ∧
      ∀ k : Index16, h.val ≤ k.val → k.val < h.val + j → (c.filters[k]).cascade = true) ∧
  (∀ (members : List Filter) (base : Nat), (chainPositions members base).Pairwise (· < ·) ∧
    ∀ p : Nat, p ∈ chainPositions members base ↔
      ∃ (j i : Nat) (m : Filter), members[j]? = some m ∧ i < 16 ∧ m.mask.getLsbD i = true ∧ p = base + 16 * j + i)

/-- Frames that leave unmatched or under FORWARD and DISCARD (R20, R26, R27): unmarked forwarded records, or nothing.

A bin report that fails the decode check (R30, R31): counted, and forwarded with the LENGTH mark where action or policy asks. One that passes it
goes on as a Sample, with a forwarded record before it under BIN-REPORT-AND-FORWARD (R28).

The Sample (R32 to R34): its numbers in the byte order of each field, the temperature signed, each flag the bit of the flag byte, absent
where the layout has no position for it or no flags. -/
def Obligations.TakeForwardsDropsOrReports : Prop :=
  (∀ (s : State) (l : Lane) (f : LaneFrame), Takes s l f →
     let miss : State := (taken s l).modCounters fun c => { c with defaultFrames := min 4294967295 (c.defaultFrames + 1) }
     (s.mgmt.running = false → exec .take s = .next ((taken s l).forwardJoin (recordOf l f .none))) ∧
     (s.mgmt.running = true → s.classifier.matchingFilter f.bytes = none →
       exec .take s = .next (match s.mgmt.params.defaultAction with | .forward => miss.forwardJoin (recordOf l f .none) | .discard => miss)) ∧
     ∀ h : Index16, s.mgmt.running = true → s.classifier.matchingFilter f.bytes = some h →
       ((s.classifier.filters[h]).action = .forward → exec .take s = .next ((takenAt s l h).forwardJoin (recordOf l f .none))) ∧
       ((s.classifier.filters[h]).action = .discard → exec .take s = .next (takenAt s l h))) ∧
  (∀ (s : State) (l : Lane) (f : LaneFrame) (h : Index16), Takes s l f → s.mgmt.running = true →
     s.classifier.matchingFilter f.bytes = some h →
     let y := s.classifier.layouts[(s.classifier.filters[h]).layout]
     (f.bytes.length < y.minLength ∨ y.identifierOf f.bytes = 0 ∨ y.identifierOf f.bytes = 0xFFFFFFFF) →
     let counted := (takenAt s l h).modCounters fun c => { c with lengthFailures := min 4294967295 (c.lengthFailures + 1) }
     ((s.classifier.filters[h]).action = .binReport → s.mgmt.params.lengthPolicy = .drop → exec .take s = .next counted) ∧
     ((s.classifier.filters[h]).action = .binReport → s.mgmt.params.lengthPolicy = .forwardMarked →
       exec .take s = .next (counted.forwardJoin (recordOf l f .length))) ∧
     ((s.classifier.filters[h]).action = .binReportAndForward → exec .take s = .next (counted.forwardJoin (recordOf l f .length)))) ∧
  (∀ (s : State) (l : Lane) (f : LaneFrame) (h : Index16), Takes s l f → s.mgmt.running = true →
    s.classifier.matchingFilter f.bytes = some h →
    let y := s.classifier.layouts[(s.classifier.filters[h]).layout]
    y.minLength ≤ f.bytes.length → y.identifierOf f.bytes ≠ 0 → y.identifierOf f.bytes ≠ 0xFFFFFFFF →
    ((s.classifier.filters[h]).action = .binReport → exec .take s = .next ((takenAt s l h).mergeSample (y.sample l f h))) ∧
    ((s.classifier.filters[h]).action = .binReportAndForward →
      exec .take s = .next (((takenAt s l h).forwardJoin (recordOf l f .none)).mergeSample (y.sample l f h)))) ∧
  (∀ (y : Layout) (l : Lane) (f : LaneFrame) (h : Index16),
    let byte (p : Nat) : Nat := (f.bytes.getD p 0).toNat
    let two (order : ByteOrder) (p : Nat) : Nat :=
      match order with
      | .big => 256 * byte p + byte (p + 1)
      | .little => byte p + 256 * byte (p + 1)
    let four (order : ByteOrder) (p : Nat) : Nat :=
      match order with
      | .big => 65536 * two .big p + two .big (p + 2)
      | .little => two .little p + 65536 * two .little (p + 2)
    let flag (position : Option Nat) : Option Bool :=
      match y.flags, position with
      | some p, some b => some (decide (byte p / 2 ^ b % 2 = 1))
      | _, _ => none
    let x := y.sample l f h
    x.identifier.toNat = four y.idOrder y.idOffset ∧ x.sequence.toNat = two y.seqOrder y.seqOffset ∧
      x.raw = two y.measureOrder y.measureOffset ∧ x.kind = y.kind ∧
      x.temperature = y.temperature.map (fun p => if byte p < 128 then (byte p : Int) else (byte p : Int) - 256) ∧
      x.lid = flag y.lid ∧ x.tilt = flag y.tilt ∧ x.restart = flag y.restart ∧ x.shatter = flag y.shatter ∧
      x.lane = l ∧ x.rssi = f.rssi ∧ x.arrival = f.arrival ∧ x.filter = h)

/-- A later copy (R41, R42) is counted and its entry kept; at the record of a provisioned bin its merge note counts, and widens lanes heard
and raises best RSSI where the bin is ACTIVE and the sequences agree. -/
def Obligations.LaterCopyIsMerged : Prop :=
  ∀ (s : State) (l : Lane) (f : LaneFrame) (h : Index16) (x : Sample), Reports s l f h x →
    (∃ e ∈ s.copies, e.identifier = x.identifier ∧ e.sequence = x.sequence) →
    let merged := (reported s l f h).modCounters fun c => { c with copiesMerged := min 4294967295 (c.copiesMerged + 1) }
    (s.lookup x.identifier = none → exec .take s = .next merged) ∧
    ∀ (i : Slot) (best : Int), s.lookup x.identifier = some i →
      let r := s.record i
      let counted : BinRecord := { r with counters := { r.counters with merged := min 65535 (r.counters.merged + 1) } }
      (r.admin = .active → r.lastSequence = some x.sequence → r.bestRssi = some best →
        exec .take s = .next (merged.setRecord i
          { counted with
            lanesHeard := r.lanesHeard ||| (1#4 <<< x.lane.val), bestRssi := some (if best < x.rssi then x.rssi else best) })) ∧
      (r.admin ≠ .active ∨ r.lastSequence ≠ some x.sequence → exec .take s = .next (merged.setRecord i counted))

/-- A first copy of an unknown identifier (R39, R60, R61): its entry is made, and the Discovery List takes a repeat sighting, a new
sighting with its notice, or an overflow. -/
def Obligations.UnknownIdentifierGoesToTheDiscoveryList : Prop :=
  ∀ (s : State) (l : Lane) (f : LaneFrame) (h : Index16) (x : Sample), ReportsFirst s l f h x → s.lookup x.identifier = none →
    let counted := (firstCopy s l f h x).modCounters fun c => { c with unknowns := min 4294967295 (c.unknowns + 1) }
    ((∃ e ∈ s.bins.discovery, e.identifier = x.identifier) → exec .take s = .next
      { counted with bins := { s.bins with discovery := s.bins.discovery.map fun e =>
          if e.identifier = x.identifier then
            { e with lastHeard := s.mgmt.secs, count := min 65535 (e.count + 1), filter := h }
          else e } }) ∧
    ((∀ e ∈ s.bins.discovery, e.identifier ≠ x.identifier) → s.bins.discovery.length < 64 → exec .take s = .next
      (({ counted with bins := { s.bins with discovery := s.bins.discovery ++
          [{ identifier := x.identifier, firstHeard := s.mgmt.secs, lastHeard := s.mgmt.secs, count := 1, filter := h }] } } :
        State).notify
        { time := s.mgmt.secs, slot := none, identifier := some x.identifier, body := .discovered h l f.rssi })) ∧
    ((∀ e ∈ s.bins.discovery, e.identifier ≠ x.identifier) → 64 ≤ s.bins.discovery.length → exec .take s = .next
      (counted.modCounters fun c => { c with discoveryOverflows := min 4294967295 (c.discoveryOverflows + 1) }))

/-- Samples that a record does not apply: at a SUSPENDED record (R63), through another filter (R64), a REPEAT and a STALE one (R66); the
last two in either identity state, and a MISMATCHED bin still counts them toward its return to MATCHED (R65). -/
def Obligations.SampleNotAppliedIsCountedAndEnds : Prop :=
  ∀ (s : State) (l : Lane) (f : LaneFrame) (h : Index16) (x : Sample) (i : Slot), ReportsFirst s l f h x → s.lookup x.identifier = some i →
    let base := firstCopy s l f h x
    let r := s.record i
    let k : BinCounters := { r.counters with received := min 65535 (r.counters.received + 1) }
    (r.admin = .suspended → exec .take s = .next (base.setRecord i { r with counters := k })) ∧
    (r.admin = .active → h ≠ r.profileFilter →
      let run := min 3 (r.mismatchRun + 1)
      let other : State :=
        (base.setRecord i
          { r with
            mismatchRun := run, matchRun := 0, identity := if run = 3 then .mismatched else r.identity
            counters := { k with mismatches := min 65535 (k.mismatches + 1) } }).modCounters fun c =>
          { c with mismatches := min 4294967295 (c.mismatches + 1) }
      exec .take s = .next (
        if r.identity = .matched ∧ run = 3 then other.notifySlot i (.identity .matched .mismatched h r.profileFilter) else other)) ∧
    (r.admin = .active → h = r.profileFilter → ∀ last : Word16, r.lastSequence = some last →
      let run := min 3 (r.matchRun + 1)
      let returns : Prop := r.identity = .mismatched ∧ run = 3
      let judged (counters : BinCounters) : State := base.setRecord i
        { r with
          mismatchRun := 0, matchRun := if r.identity = .matched then r.matchRun else if run = 3 then 0 else run
          identity := if run = 3 then .matched else r.identity, counters := counters }
      let noticed (t : State) : State := if returns then t.notifySlot i (.identity .mismatched .matched h r.profileFilter) else t
      (x.sequence = last → exec .take s = .next
        (noticed ((judged { k with repeats := min 65535 (k.repeats + 1) }).modCounters fun c =>
          { c with repeats := min 4294967295 (c.repeats + 1) }))) ∧
      (32768 ≤ (x.sequence - last).toNat → x.restart ≠ some true → exec .take s = .next
        (noticed ((judged { k with stale := min 65535 (k.stale + 1) }).modCounters fun c =>
          { c with stale := min 4294967295 (c.stale + 1) }))))

/-- An accepted Sample (R66, R68), a sensor restart (R67) among them, leaves its sequence, arrival, lane and RSSI in the record whatever the
later stages make of it, with the reports counted, and of the other records only visit links can change.

The stages from the record on: received counted, the identity worked (R65), then the sequence check (R66), whose acceptance update (R68)
comes before the later stages and after a restart's counter and notice (R67). -/
def Obligations.AcceptedSampleUpdatesItsRecord : Prop :=
  (∀ (s : State) (l : Lane) (f : LaneFrame) (h : Index16) (x : Sample) (i : Slot), ReportsFirst s l f h x → s.lookup x.identifier = some i →
    (s.record i).admin = .active → (s.record i).profileFilter = h → ∀ skipped : Nat,
    ((s.record i).lastSequence = none ∧ skipped = 0 ∨
      (∃ last : Word16, (s.record i).lastSequence = some last ∧ (x.sequence - last).toNat = skipped + 1 ∧ skipped < 32767) ∨
      ∃ last : Word16, (s.record i).lastSequence = some last ∧ 32768 ≤ (x.sequence - last).toNat ∧ x.restart = some true ∧ skipped = 0) →
    let received := (firstCopy s l f h x).setRecord i
      { s.record i with
        counters := { (s.record i).counters with received := min 65535 ((s.record i).counters.received + 1) } }
    ∃ t, exec .take s = .next t ∧ t = (received.profileMatch i x).workSequence i x ∧
      (t.record i).lastSequence = some x.sequence ∧ (t.record i).lastArrival = some f.arrival ∧
      (t.record i).lanesHeard = 1#4 <<< l.val ∧ (t.record i).bestRssi = some f.rssi ∧
      (t.record i).counters.received = min 65535 ((s.record i).counters.received + 1) ∧
      (t.record i).counters.applied = min 65535 ((s.record i).counters.applied + 1) ∧
      (t.record i).counters.missedByGap = min 65535 ((s.record i).counters.missedByGap + skipped) ∧
      (t.record i).identifier = (s.record i).identifier ∧ (t.record i).admin = .active ∧ (t.record i).cls = (s.record i).cls ∧
      (t.record i).profileFilter = h ∧ t.copies = (firstCopy s l f h x).copies ∧ t.mgmt = s.mgmt ∧ t.stores = s.stores ∧
      t.sweep = s.sweep ∧ t.bins.directory = s.bins.directory ∧ t.bins.discovery = s.bins.discovery ∧
      t.egress = (reported s l f h).egress ∧ ∀ j ≠ i, t.record j = { s.record j with links := (t.record j).links }) ∧
  (∀ (s : State) (i : Slot) (x : Sample),
    let r := s.record i
    let run := min 3 (r.matchRun + 1)
    (r.identity = .matched → s.profileMatch i x = s.setRecord i { r with mismatchRun := 0 }) ∧
    (r.identity = .mismatched → run < 3 → s.profileMatch i x = s.setRecord i { r with mismatchRun := 0, matchRun := run }) ∧
    (r.identity = .mismatched → run = 3 → s.profileMatch i x =
      (s.setRecord i { r with mismatchRun := 0, matchRun := 0, identity := .matched }).notify
        { time := s.mgmt.secs, slot := some i, identifier := some r.identifier
          body := .identity .mismatched .matched x.filter r.profileFilter })) ∧
  (∀ (s : State) (i : Slot) (x : Sample),
    let r := s.record i
    let accepted (skipped : Nat) : BinRecord :=
      { r with
        lastSequence := some x.sequence, lastArrival := some x.arrival, lanesHeard := 1#4 <<< x.lane.val, bestRssi := some x.rssi
        counters := { r.counters with
          applied := min 65535 (r.counters.applied + 1), missedByGap := min 65535 (r.counters.missedByGap + skipped) } }
    (r.lastSequence = none → s.workSequence i x = (s.setRecord i (accepted 0)).workAccepted i x false) ∧
    ∀ last : Word16, r.lastSequence = some last →
      (∀ skipped : Nat, (x.sequence - last).toNat = skipped + 1 → skipped < 32767 →
        s.workSequence i x = (s.setRecord i (accepted skipped)).workAccepted i x (decide (skipped = 0))) ∧
      (32768 ≤ (x.sequence - last).toNat → x.restart = some true → s.workSequence i x =
        (((s.modCounters fun c => { c with restarts := min 4294967295 (c.restarts + 1) }).notify
          { time := s.mgmt.secs, slot := some i, identifier := some r.identifier
            body := .event .restart .occurred none (some last) (some x.sequence) }).setRecord i (accepted 0)).workAccepted i x false))

/-- The expiry of a copy window (R43) removes the entry once the Millisecond Count is at or after its expiry, and nothing else happens;
before that nothing happens (assumption 1). A first copy at a full set (R40) finds the first entry evicted and counted. -/
def Obligations.CopyEntriesLeaveByExpiryOrEviction : Prop :=
  (∀ (s : State) (q₁ q₂ : List CopyEntry) (e : CopyEntry), s.copies = q₁ ++ e :: q₂ → CopiesDistinct s →
    ((s.mgmt.ms - e.expiry).toNat < 2147483648 → exec (.copyExpiry e.identifier e.sequence) s = .next { s with copies := q₁ ++ q₂ }) ∧
    (2147483648 ≤ (s.mgmt.ms - e.expiry).toNat → exec (.copyExpiry e.identifier e.sequence) s = .next s)) ∧
  (∀ (s : State) (l : Lane) (f : LaneFrame) (h : Index16) (x : Sample), Reports s l f h x →
    (∀ e ∈ s.copies, ¬(e.identifier = x.identifier ∧ e.sequence = x.sequence)) → s.copies.length = 128 →
    exec .take s = exec .take (({ s with copies := s.copies.tail } : State).modCounters fun c =>
      { c with evictions := min 4294967295 (c.evictions + 1) }))

/-! ### Re-measure entries and the transmit lane -/

/-- A new entry (R135) stands after every entry whose open time is at or before its own and before the first that opens after it.

A WAITING entry becomes DUE at its open time (R136), and a DUE entry expires at its close time, leaving its slot's pending flag SET
(R137); before those times neither event does anything (assumption 1). -/
def Obligations.EntriesAreOrderedAndFollowTheirTimes : Prop :=
  (∀ (e : ReEntry) (q : List ReEntry), ∃ q₁ q₂, q = q₁ ++ q₂ ∧ placeEntry e q = q₁ ++ e :: q₂ ∧
     (∀ x ∈ q₁, (e.opens - x.opens).toNat < 2147483648) ∧ ∀ x ∈ q₂.head?, ¬(e.opens - x.opens).toNat < 2147483648) ∧
  (∀ (s : State) (q₁ q₂ : List ReEntry) (e : ReEntry), s.downlink.queue = q₁ ++ e :: q₂ → QueueSound s →
     (e.state = .waiting → (s.mgmt.ms - e.opens).toNat < 2147483648 → exec (.entryDue e.slot) s =
       .next { s with downlink := { s.downlink with queue := q₁ ++ { e with state := .due } :: q₂ } }) ∧
     (e.state = .waiting → 2147483648 ≤ (s.mgmt.ms - e.opens).toNat → exec (.entryDue e.slot) s = .next s) ∧
     (e.state = .due → (s.mgmt.ms - e.closes).toNat < 2147483648 → exec (.entryExpiry e.slot) s =
       .next ((({ s with downlink := { s.downlink with queue := q₁ ++ q₂ } } : State).setRecord e.slot
         { s.record e.slot with pendingFlag := true }).modCounters fun c => { c with expired := min 4294967295 (c.expired + 1) })) ∧
     (e.state = .due → 2147483648 ≤ (s.mgmt.ms - e.closes).toNat → exec (.entryExpiry e.slot) s = .next s))

/-- The transmit arbiter at an IDLE lane (R138, R139, R191): the DUE entry with the earliest close, the first of several, leaves the queue
as an 8-byte re-measure frame and spends an attempt. The kept bytes of the frame are the model's (assumption 6).

With no re-measure open (R138, R140) the head of the Downlink Frame FIFO is handed over unchanged; with one open it waits. -/
def Obligations.TransmitArbiterPrefersOpenReMeasures : Prop :=
  (∀ (s : State) (q₁ q₂ : List ReEntry) (e : ReEntry), s.downlink.queue = q₁ ++ e :: q₂ → QueueSound s → s.downlink.tx = none →
     let open_ (x : ReEntry) : Prop := x.state = .due ∧ 2147483648 ≤ (s.mgmt.ms - x.closes).toNat
     open_ e → (∀ x ∈ q₁, open_ x → 2147483648 ≤ (e.closes - x.closes).toNat) →
     (∀ x ∈ q₂, open_ x → (x.closes - e.closes).toNat < 2147483648) →
     let r := s.record e.slot
     let attempt := max 1 ((s.classOf e.slot).maxAttempts + 1 - r.attempts)
     let head := pack32 e.identifier.toNat ++ [0x01#8] ++ pack8 attempt
     let send : TxSend := { kind := .reMeasure e.slot e.identifier, sendStart := s.mgmt.ms, bytes := head ++ pack16 (crc head).toNat }
     exec .reMeasureHandover s = .next
       ((({ s with downlink := { s.downlink with queue := q₁ ++ q₂, tx := some send } } : State).setRecord e.slot
         { r with attempts := r.attempts - 1 }).modCounters fun c => { c with handed := min 4294967295 (c.handed + 1) })) ∧
  (∀ (s : State) (f : List Byte) (rest : List (List Byte)), s.downlink.tx = none → s.downlink.frames = f :: rest →
     let open_ (x : ReEntry) : Prop := x.state = .due ∧ 2147483648 ≤ (s.mgmt.ms - x.closes).toNat
     ((∀ x ∈ s.downlink.queue, ¬open_ x) → exec .passThroughHandover s = .next
       { s with downlink := { s.downlink with
           frames := rest, tx := some { kind := .passThrough, sendStart := s.mgmt.ms, bytes := f } } }) ∧
     ((∃ x ∈ s.downlink.queue, open_ x) → exec .passThroughHandover s = .next s))

/-- The modulator's answers and the timeout (R142, R143). -/
def Obligations.AnswersAndTimeoutEndTheSend : Prop :=
  ∀ s : State,
    (s.downlink.tx = none → exec .txDone s = .next s ∧ exec .txFail s = .next s ∧ exec .transmitTimeout s = .next s) ∧
    ∀ send : TxSend, s.downlink.tx = some send →
      let idle_ : State := { s with downlink := { s.downlink with tx := none } }
      let late : Prop := (s.mgmt.ms - (send.sendStart + 4000#32)).toNat < 2147483648
      exec .txDone s = .next idle_ ∧
      (¬late → exec .transmitTimeout s = .next s) ∧ (late → exec .transmitTimeout s = exec .txFail s) ∧
      (send.kind = .passThrough → exec .txFail s =
        .next (idle_.modCounters fun c => { c with downlinkDrops := min 4294967295 (c.downlinkDrops + 1) })) ∧
      ∀ (i : Slot) (id : Word32), send.kind = .reMeasure i id →
        let failed := idle_.modCounters fun c => { c with failed := min 4294967295 (c.failed + 1) }
        ((s.record i).admin = .active ∧ (s.record i).identifier = id → exec .txFail s =
          .next (failed.setRecord i { s.record i with pendingFlag := true })) ∧
        (¬((s.record i).admin = .active ∧ (s.record i).identifier = id) → exec .txFail s = .next failed)

/-! ### The backhaul ingress -/

/-- A whole envelope (R164, R165, R141): a request joins the Request FIFO, a radio frame the Downlink Frame FIFO, or each is dropped and
counted; another type is a management drop.

An ingress frame of a wrong length, with a wrong length field, or with a wrong check (R164, R188) is a management drop. -/
def Obligations.IngressFrameIsDispatchedOrDropped : Prop :=
  (∀ (s : State) (type : Byte) (payload : List Byte), payload.length ≤ 1024 →
     let head := [type] ++ pack16 payload.length ++ payload
     let bytes := head ++ pack16 (crc head).toNat
     let dropped := s.modCounters fun c => { c with managementDrops := min 4294967295 (c.managementDrops + 1) }
     let refused := s.modCounters fun c => { c with downlinkDrops := min 4294967295 (c.downlinkDrops + 1) }
     (∀ (tag : Word16) (code : Byte) (ps : List Byte), type = 0x01 → payload = pack16 tag.toNat ++ [code] ++ ps →
       (s.mgmt.requests.length < 4 → exec (.ingressFrame bytes) s =
         .next { s with mgmt := { s.mgmt with requests := s.mgmt.requests ++ [{ tag := tag, code := code, params := ps }] } }) ∧
       (4 ≤ s.mgmt.requests.length → exec (.ingressFrame bytes) s = .next dropped)) ∧
     (type = 0x01 → payload.length < 3 → exec (.ingressFrame bytes) s = .next dropped) ∧
     (type = 0x02 → 4 ≤ payload.length ∧ payload.length ≤ 64 ∧ s.downlink.frames.length < 8 → exec (.ingressFrame bytes) s =
       .next { s with downlink := { s.downlink with frames := s.downlink.frames ++ [payload] } }) ∧
     (type = 0x02 → payload.length < 4 ∨ 64 < payload.length ∨ 8 ≤ s.downlink.frames.length →
       exec (.ingressFrame bytes) s = .next refused) ∧
     (type ≠ 0x01 → type ≠ 0x02 → exec (.ingressFrame bytes) s = .next dropped)) ∧
  (∀ (s : State) (bytes : List Byte),
     let dropped := s.modCounters fun c => { c with managementDrops := min 4294967295 (c.managementDrops + 1) }
     (bytes.length < 5 ∨ 1029 < bytes.length → exec (.ingressFrame bytes) s = .next dropped) ∧
     ∀ (type b₁ b₂ c₁ c₂ : Byte) (payload : List Byte), bytes = [type, b₁, b₂] ++ payload ++ [c₁, c₂] →
       ([b₁, b₂] ≠ pack16 payload.length ∨ [c₁, c₂] ≠ pack16 (crc ([type, b₁, b₂] ++ payload)).toNat →
         exec (.ingressFrame bytes) s = .next dropped))

/-! ### Requests: taking, refusing, the part as a whole -/

/-- A request whose command code names no command is answered BAD_COMMAND, one whose parameter bytes do not number what its command requires
BAD_LENGTH; both change nothing else (R166, R167).

While the Response FIFO is full no request is taken (R166). That a command whose request is not at the head changes nothing is the
model's choice (assumption 1). -/
def Obligations.RequestsAreRefusedOrWait : Prop :=
  (∀ (s : State) (q : Request),
     (s.mgmt.requests.head? = some q → q.code ∉ commandCodes → s.egress.responses.length < 4 →
       exec .badCommandRequest s = .next (answered s q .badCommand [])) ∧
     (∀ row ∈ ([(.identify, 0x01, 0), (.start, 0x02, 0), (.stop, 0x03, 0), (.restart, 0x04, 0), (.setTime, 0x05, 4), (.provision, 0x10, 9),
         (.retire, 0x11, 5), (.setAdmin, 0x12, 6), (.confirmVisit, 0x13, 5), (.loadClass, 0x20, 38), (.readClass, 0x21, 1),
         (.loadCurve, 0x22, 70), (.loadFilter, 0x24, 12), (.loadLayout, 0x25, 20), (.readBin, 0x30, 6), (.readBinRange, 0x31, 3),
         (.readVisitList, 0x32, 4), (.readDiscovery, 0x33, 1), (.readCounters, 0x34, 3), (.flushDigest, 0x35, 0)] :
           List (Instr × Byte × Nat)),
       Requests s row.2.1 q → q.params.length ≠ row.2.2 → exec row.1 s = .next (answered s q .badLength [])) ∧
     (Requests s 0x06 q → q.params = [] ∨ q.params.length ≠ 1 + 3 * (q.params.getD 0 0).toNat →
       exec .setParams s = .next (answered s q .badLength [])) ∧
     (Requests s 0x23 q → q.params.length < 2 ∨ q.params.length ≠ 2 + 2 * (q.params.getD 1 0).toNat →
       exec .loadKernel s = .next (answered s q .badLength []))) ∧
  (∀ (s : State) (code : Byte), 4 ≤ s.egress.responses.length → exec (requestCommand code) s = .next s)

/-- START (R127, R169).

STOP (R126, R145, R170). -/
def Obligations.StartAndStopSwitchProcessing : Prop :=
  (∀ (s : State) (q : Request), Requests s 0x02 q → q.params = [] →
     (s.mgmt.running = false → ∃ t, exec .start s = .next t ∧
       (∀ i : Slot, t.record i =
         if (s.record i).admin = .free then s.record i else { s.record i with lastHeard := s.mgmt.secs }) ∧
       t = { answered s q .ok (pack32 s.mgmt.secs.toNat) with
         mgmt := { s.mgmt with requests := s.mgmt.requests.tail, running := true }
         sweep := { s.sweep with timer := some 0, period := s.mgmt.params.passPeriod }
         bins := { s.bins with records := t.bins.records } }) ∧
     (s.mgmt.running = true → exec .start s = .next (answered s q .wrongState []))) ∧
  (∀ (s : State) (q : Request), Requests s 0x03 q → q.params = [] →
     (s.mgmt.running = true → ∃ t, exec .stop s = .next t ∧
       (∀ i : Slot, ((∃ e ∈ s.downlink.queue, e.slot = i) → t.record i = { s.record i with pendingFlag := true }) ∧
         ((∀ e ∈ s.downlink.queue, e.slot ≠ i) → t.record i = s.record i)) ∧
       t = { answered s q .ok [] with
         mgmt := { s.mgmt with requests := s.mgmt.requests.tail, running := false }
         sweep := { s.sweep with position := none, timer := none }
         downlink := { s.downlink with queue := [] }
         bins := { s.bins with records := t.bins.records } }) ∧
     (s.mgmt.running = false → exec .stop s = .next (answered s q .wrongState [])))

/-- RESTART (R171): the traffic in flight flushed, everything else kept, and its own response the first in the emptied Response FIFO. -/
def Obligations.RestartFlushesTheTraffic : Prop :=
  ∀ (s : State) (q : Request), Requests s 0x04 q → q.params = [] → ∃ t, exec .restart s = .next t ∧
    (∀ l : Lane, t.lanes[l] = { s.lanes[l] with fifo := [] }) ∧
    t = { s with
      lanes := t.lanes
      copies := []
      sweep := { s.sweep with position := none, timer := none }
      downlink := { queue := [], frames := [], tx := none }
      notices := { s.notices with queue := [], lost := 0, flushPending := false, flushRemaining := 0 }
      egress := { s.egress with
        responses := [{ tag := q.tag, code := q.code, status := .ok, results := [] }], forward := [], starvation := 0 }
      mgmt := { s.mgmt with requests := s.mgmt.requests.tail, running := false } }

/-- IDENTIFY (R174).

SET_TIME (R172). -/
def Obligations.IdentifyReportsAndSetTimeWrites : Prop :=
  (∀ (s : State) (q : Request), Requests s 0x01 q → q.params = [] →
     exec .identify s = .next (answered s q .ok (pack16 8160 ++ pack8 1 ++ pack8 (if s.mgmt.running then 1 else 0) ++
       pack32 s.mgmt.secs.toNat ++ pack32 s.mgmt.ms.toNat ++ pack16 (s.bins.records.toList.countP fun r => decide (r.admin ≠ .free)) ++
       pack8 (s.stores.classes.toList.countP fun c => c.loaded)))) ∧
  (∀ (s : State) (q : Request) (v : Word32), Requests s 0x05 q → q.params = pack32 v.toNat →
     (s.mgmt.running = false → exec .setTime s = .next { answered s q .ok (pack32 v.toNat) with
       mgmt := { s.mgmt with requests := s.mgmt.requests.tail, secs := v } }) ∧
     (s.mgmt.running = true → exec .setTime s = .next (answered s q .wrongState [])))

/-- SET_PARAMS (R173): every pair applied in order, a numeric value moved to the nearer limit of its range; a pair outside the table or set
refuses the whole. Each number writes the parameter that the table of 10.5 gives it, and nothing else; the codes of the enumerated ones are
those of R189 (assumption 10). -/
def Obligations.SetParamsAppliesEveryPairOrNone : Prop :=
  (∀ (s : State) (q : Request) (pairs : List (Nat × Nat)), Requests s 0x06 q → pairs.length < 256 →
    (∀ v ∈ pairs, v.1 < 256 ∧ v.2 < 65536) →
    q.params = pack8 pairs.length ++ (pairs.map fun v => pack8 v.1 ++ pack16 v.2).flatten →
    let enumerated (n : Nat) : Prop := n ∈ [1, 2, 3, 4, 5, 10, 11, 13]
    let admitted (v : Nat × Nat) : Prop := 1 ≤ v.1 ∧ v.1 ≤ 17 ∧ (enumerated v.1 → v.2 ≤ 1)
    let limits : List (Nat × Nat × Nat) :=
      [(6, 1, 1023), (7, 1, 15), (8, 1, 15), (9, 1, 15), (12, 50, 2000), (14, 10, 600), (15, 1, 60), (16, 1, 32), (17, 10, 3600)]
    let applied (v : Nat × Nat) : Nat :=
      match limits.find? (fun x => x.1 == v.1) with
      | some x => if v.2 < x.2.1 then x.2.1 else if x.2.2 < v.2 then x.2.2 else v.2
      | none => v.2
    (1 ≤ pairs.length → pairs.length ≤ 17 → (∀ v ∈ pairs, admitted v) →
      exec .setParams s = .next { answered s q (if pairs.all (fun v => applied v == v.2) then .ok else .clamped)
          (pack8 pairs.length ++ (pairs.map fun v => pack8 v.1 ++ pack16 (applied v)).flatten) with
        mgmt := { s.mgmt with
          requests := s.mgmt.requests.tail
          params := pairs.foldl (fun p v => p.write v.1 (applied v)) s.mgmt.params } }) ∧
    (pairs = [] ∨ 17 < pairs.length ∨ (∃ v ∈ pairs, ¬admitted v) → exec .setParams s = .next (answered s q .badParam []))) ∧
  (∀ (p : Params) (v : Nat),
    (∀ l : Lane, p.write (l.val + 1) 0 = { p with laneEnable := p.laneEnable.set l false } ∧
      p.write (l.val + 1) 1 = { p with laneEnable := p.laneEnable.set l true }) ∧
    p.write 5 0 = { p with fcsPolicy := .drop } ∧ p.write 5 1 = { p with fcsPolicy := .forwardMarked } ∧
    p.write 6 v = { p with thr := v } ∧ p.write 7 v = { p with dOn := v } ∧ p.write 8 v = { p with qOn := v } ∧
    p.write 9 v = { p with cOn := v } ∧
    p.write 10 0 = { p with defaultAction := .forward } ∧ p.write 10 1 = { p with defaultAction := .discard } ∧
    p.write 11 0 = { p with lengthPolicy := .drop } ∧ p.write 11 1 = { p with lengthPolicy := .forwardMarked } ∧
    p.write 12 v = { p with copyWindow := v } ∧
    p.write 13 0 = { p with rangePolicy := .drop } ∧ p.write 13 1 = { p with rangePolicy := .mark } ∧
    p.write 14 v = { p with passPeriod := v } ∧ p.write 15 v = { p with hold := v } ∧ p.write 16 v = { p with starvationLimit := v } ∧
    p.write 17 v = { p with interval := v })

/-! ### Requests about bins -/

/-- PROVISION (R52, R53): the slot and the lowest free way taken, the record set, the Discovery List entry removed.

The refusals of PROVISION (R52) in their order, each changing nothing. -/
def Obligations.ProvisionPlacesOrRefuses : Prop :=
  (∀ (s : State) (q : Request) (id : Word32) (cls pf : Index16) (given : Option Slot) (i : Slot) (w : Fin 4), Requests s 0x10 q →
     q.params = pack32 id.toNat ++ pack8 cls.val ++ pack8 pf.val ++ packOpt 2 (fun k => pack16 k.val) given →
     id ≠ 0 → id ≠ 0xFFFFFFFF → (s.classDesc cls).loaded = true → s.lookup id = none →
     (match given with
       | some k => i = k ∧ (s.record i).admin = .free
       | none => (s.record i).admin = .free ∧ ∀ j < i, (s.record j).admin ≠ .free) →
     (s.bins.directory[wayIndex id w]).valid = false → (∀ v < w, (s.bins.directory[wayIndex id v]).valid = true) →
     exec .provision s = .next { answered s q .ok (pack16 i.val) with
       bins :=
         { directory := s.bins.directory.set (wayIndex id w) { valid := true, identifier := id, slot := i }
           records := s.bins.records.set i
             { BinRecord.free with
               identifier := id, admin := .active, cls := cls, profileFilter := pf, lastHeard := s.mgmt.secs, bandSince := s.mgmt.secs
               attempts := (s.classDesc cls).maxAttempts }
           discovery := s.bins.discovery.filter fun e => decide (e.identifier ≠ id) } }) ∧
  (∀ (s : State) (q : Request) (id : Word32) (cls pf flag slot : Nat), Requests s 0x10 q → cls < 256 → pf < 256 → flag < 256 →
     slot < 65536 → q.params = pack32 id.toNat ++ pack8 cls ++ pack8 pf ++ pack8 flag ++ pack16 slot →
     let bad : Prop := id = 0 ∨ id = 0xFFFFFFFF ∨ 15 < cls ∨ 15 < pf ∨ 1 < flag ∨ (flag = 1 ∧ 8191 < slot)
     let unloaded : Prop := ∀ c : Index16, c.val = cls → (s.classDesc c).loaded = false
     let occupied : Prop :=
       (flag = 1 ∧ ∀ k : Slot, k.val = slot → (s.record k).admin ≠ .free) ∨ (flag = 0 ∧ ∀ k : Slot, (s.record k).admin ≠ .free)
     let rowFull : Prop := ∀ w : Fin 4, (s.bins.directory[wayIndex id w]).valid = true
     (bad ∨ unloaded → exec .provision s = .next (answered s q .badParam [])) ∧
     (¬bad → ¬unloaded → ∀ i, s.lookup id = some i → exec .provision s = .next (answered s q .exists (pack16 i.val))) ∧
     (¬bad → ¬unloaded → s.lookup id = none → occupied → exec .provision s = .next (answered s q .noSlot [])) ∧
     (¬bad → ¬unloaded → s.lookup id = none → ¬occupied → rowFull → exec .provision s = .next (answered s q .directoryFull [])))

/-- RETIRE (R54, R107, R144): the slot off the Visit List, its entry out of the queue, its mapping gone, its record free. -/
def Obligations.RetireFreesTheSlot : Prop :=
  ∀ (s : State) (q : Request) (key : BinKey), Requests s 0x11 q → q.params = keyBytes key →
    (NamesNone s key → exec .retire s = .next (answered s q .notFound [])) ∧
    ∀ i : Slot, Names s key i → IdentifiersSound s → VisitListSound s → ∃ t, exec .retire s = .next t ∧
      t.record i = BinRecord.free ∧ (∀ j ≠ i, t.record j = recordAfterLeave s i j) ∧
      (∀ id : Word32, t.lookup id = if id = (s.record i).identifier then none else s.lookup id) ∧
      t = { answered s q .ok (pack16 i.val ++ pack32 (s.record i).identifier.toNat) with
        visits := visitsAfterLeave s i
        downlink := { s.downlink with queue := s.downlink.queue.filter fun e => decide (e.slot ≠ i) }
        bins := { s.bins with directory := t.bins.directory, records := t.bins.records } }

/-- SET_ADMIN (R55, R56): an ACTIVE record suspended, a SUSPENDED one started afresh, a record in the target state left as it is. -/
def Obligations.SetAdminSuspendsAndReactivates : Prop :=
  ∀ (s : State) (q : Request) (key : BinKey) (target : Nat), Requests s 0x12 q → target < 256 → q.params = keyBytes key ++ pack8 target →
    (target ≠ 1 → target ≠ 2 → exec .setAdmin s = .next (answered s q .badParam [])) ∧
    (target = 1 ∨ target = 2 → NamesNone s key → exec .setAdmin s = .next (answered s q .notFound [])) ∧
    ∀ i : Slot, Names s key i →
      let r := s.record i
      let done := answered s q .ok (pack16 i.val ++ pack32 r.identifier.toNat ++ pack8 target)
      (target = 1 ∧ r.admin = .active ∨ target = 2 ∧ r.admin = .suspended → exec .setAdmin s = .next done) ∧
      (target = 2 → r.admin = .active → VisitListSound s → ∃ t, exec .setAdmin s = .next t ∧
        t.record i = { r with admin := .suspended, links := none } ∧ (∀ j ≠ i, t.record j = recordAfterLeave s i j) ∧
        t = { done with
          visits := visitsAfterLeave s i
          downlink := { s.downlink with queue := s.downlink.queue.filter fun e => decide (e.slot ≠ i) }
          bins := { s.bins with records := t.bins.records } }) ∧
      (target = 1 → r.admin = .suspended → exec .setAdmin s = .next (done.setRecord i
        { r with
          admin := .active, ring := { r.ring with occupancy := 0 }, estimate := none, candidates := [], band := .low
          bandSince := s.mgmt.secs, visitMark := false, lastSequence := none, lastArrival := none, bestRssi := none, lanesHeard := 0
          liveness := .awaiting, missed := 0, recovery := 0, lastHeard := s.mgmt.secs, attempts := (s.classOf i).maxAttempts
          pendingFlag := false }))

/-- CONFIRM_VISIT (R102, R107): the visit mark SET and the slot off the list; a SUSPENDED record refuses it. -/
def Obligations.ConfirmVisitMarksAndUnlists : Prop :=
  ∀ (s : State) (q : Request) (key : BinKey), Requests s 0x13 q → q.params = keyBytes key →
    (NamesNone s key → exec .confirmVisit s = .next (answered s q .notFound [])) ∧
    ∀ i : Slot, Names s key i →
      let r := s.record i
      (r.admin = .suspended → exec .confirmVisit s = .next (answered s q .wrongState [])) ∧
      (r.admin = .active → VisitListSound s → ∃ t, exec .confirmVisit s = .next t ∧
        t.record i = { r with visitMark := true, links := none } ∧ (∀ j ≠ i, t.record j = recordAfterLeave s i j) ∧
        t = { answered s q .ok (pack16 i.val ++ pack32 r.identifier.toNat ++ pack8 r.band.code ++ packOpt 2 pack16 r.estimate ++
              packFlag r.links.isSome) with
          visits := visitsAfterLeave s i
          bins := { s.bins with records := t.bins.records } })

/-- Parameter bytes outside their ranges or sets (R21, R29, R73, R112, R167, R175, R177, R178): BAD_PARAM, with nothing else changed. -/
def Obligations.ParametersOutOfRangeAreRefused : Prop :=
  ∀ (s : State) (q : Request),
    let b (k : Nat) : Nat := (q.params.getD k 0).toNat
    let n16 (k : Nat) : Nat := 256 * b k + b (k + 1)
    let n32 (k : Nat) : Nat := 65536 * n16 k + n16 (k + 2)
    let badKey : Prop := 1 < b 0 ∨ (b 0 = 1 ∧ 8191 < n32 1)
    (∀ row ∈ ([(.retire, 0x11, 5), (.confirmVisit, 0x13, 5), (.setAdmin, 0x12, 6), (.readBin, 0x30, 6)] : List (Instr × Byte × Nat)),
      Requests s row.2.1 q → q.params.length = row.2.2 → badKey → exec row.1 s = .next (answered s q .badParam [])) ∧
    (Requests s 0x30 q → q.params.length = 6 → 1 < b 5 → exec .readBin s = .next (answered s q .badParam [])) ∧
    (Requests s 0x33 q → q.params.length = 1 → 1 < b 0 → exec .readDiscovery s = .next (answered s q .badParam [])) ∧
    (Requests s 0x34 q → q.params.length = 3 → 1 < b 2 → exec .readCounters s = .next (answered s q .badParam [])) ∧
    (Requests s 0x24 q → q.params.length = 12 → 15 < b 0 ∨ 1 < b 1 ∨ 63 < b 2 ∨ 1 < b 7 ∨ 1 < b 9 ∨ 3 < b 10 ∨ 15 < b 11 →
      exec .loadFilter s = .next (answered s q .badParam (pack8 (b 0)))) ∧
    (Requests s 0x25 q → q.params.length = 20 →
      15 < b 0 ∨ 63 < b 1 ∨ 1 < b 2 ∨ 63 < b 3 ∨ 1 < b 4 ∨ 63 < b 5 ∨ 1 < b 6 ∨ 1 < b 7 ∨
        (∃ k ∈ [8, 10, 12, 14, 16, 18], 1 < b k ∨ (b k = 0 ∧ b (k + 1) ≠ 0) ∨ (if k < 12 then 63 else 7) < b (k + 1)) →
      exec .loadLayout s = .next (answered s q .badParam [])) ∧
    (Requests s 0x20 q → q.params.length = 38 →
      15 < b 0 ∨ 15 < b 1 ∨ b 2 ∉ [4, 8, 16] ∨ 127 < b 3 ∨ b 4 = 0 ∨ 16 < b 4 ∨ 1 < b 5 ∨ n16 6 = 0 ∨ 1000 < n16 6 ∨ n16 8 = 0 ∨
        1000 < n16 8 ∨ 1000 < n16 10 ∨ n16 12 = 0 ∨ 999 < n16 12 ∨ n16 14 < 2 ∨ 1000 < n16 14 ∨ 200 < b 16 ∨ b 17 = 0 ∨ 16 < b 17 ∨
        b 18 = 0 ∨ 16 < b 18 ∨ 65534 < n16 19 ∨ n16 21 = 0 ∨ n32 23 < 60 ∨ 86400 < n32 23 ∨ b 27 = 0 ∨ 31 < b 27 ∨ b 28 < 2 ∨ 63 < b 28 ∨
        b 29 = 0 ∨ 15 < b 29 ∨ 1 < b 30 ∨ n16 31 < 100 ∨ 5000 < n16 31 ∨ n16 33 < 10 ∨ 1000 < n16 33 ∨ b 35 = 0 ∨ 7 < b 35 ∨
        (125 < b 36 ∧ b 36 < 216 ∧ b 36 ≠ 127) ∨ 1 < b 37 →
      exec .loadClass s = .next (answered s q .badParam []))

/-! ### Loads and reads of the tables -/

/-- LOAD_CLASS (R73): a descriptor in range whose relations hold replaces the named one and is loaded; one that breaks a relation, or a
class number above 15, is refused. READ_CLASS returns the descriptor as it stands. How the fields are packed (12.3), the ring length as its
number, is the model's reading of R189 (assumption 10). -/
def Obligations.LoadClassStoresWhatReadClassReturns : Prop :=
  ∀ (s : State) (q : Request) (c : ClassDesc), c.inRange = true →
    (∀ n : Index16, Requests s 0x20 q → q.params = pack8 n.val ++ c.packFields → c.related = true →
      exec .loadClass s = .next { answered s q .ok [] with
        stores := { s.stores with classes := s.stores.classes.set n { c with loaded := true } } }) ∧
    (∀ n : Nat, n < 256 → Requests s 0x20 q → q.params = pack8 n ++ c.packFields → 15 < n ∨ c.related = false →
      exec .loadClass s = .next (answered s q .badParam [])) ∧
    (∀ n : Index16, Requests s 0x21 q → q.params = pack8 n.val → s.classDesc n = c →
      exec .readClass s = .next (answered s q .ok (packFlag c.loaded ++ c.packFields))) ∧
    (∀ n : Nat, 15 < n → n < 256 → Requests s 0x21 q → q.params = pack8 n → exec .readClass s = .next (answered s q .badParam []))

/-- LOAD_CURVE (R75): the whole page replaced, each fill above 1000 stored as 1000 and answered CLAMPED; page, origin or exponent out of
range refused.

LOAD_KERNEL (R76): the coefficients written to consecutive positions from the start, the others kept; an empty or too long list, or a run
beyond position 127, refused. -/
def Obligations.LoadCurveAndKernelWriteTheStores : Prop :=
  (∀ (s : State) (q : Request) (n origin exponent : Nat) (fills : List Nat), Requests s 0x22 q → n < 256 → origin < 65536 → exponent < 256 →
     fills.length = 33 → (∀ f ∈ fills, f < 65536) →
     q.params = pack8 n ++ pack16 origin ++ pack8 exponent ++ (fills.map pack16).flatten →
     (∀ k : Index16, k.val = n → origin ≤ 8191 → 3 ≤ exponent → exponent ≤ 8 → ∃ page : CurvePage,
       page.origin = origin ∧ page.exponent = exponent ∧ page.points.toList = fills.map (fun f => if 1000 < f then 1000 else f) ∧
       exec .loadCurve s = .next { answered s q (if fills.all (fun f => decide (f ≤ 1000)) then .ok else .clamped) [] with
         stores := { s.stores with curves := s.stores.curves.set k page } }) ∧
     (15 < n ∨ 8191 < origin ∨ exponent < 3 ∨ 8 < exponent → exec .loadCurve s = .next (answered s q .badParam []))) ∧
  (∀ (s : State) (q : Request) (start : Nat) (l : List Int), Requests s 0x23 q → start < 256 → l.length < 256 →
     (∀ c ∈ l, -32768 ≤ c ∧ c ≤ 32767) → q.params = pack8 start ++ pack8 l.length ++ (l.map packInt16).flatten →
     (1 ≤ l.length → l.length ≤ 32 → start + l.length ≤ 128 → ∃ kernel : Vector Int 128,
       (∀ p : Fin 128, kernel[p] = if start ≤ p.val ∧ p.val < start + l.length then l.getD (p.val - start) 0 else s.stores.kernel[p]) ∧
       exec .loadKernel s = .next { answered s q .ok [] with stores := { s.stores with kernel := kernel } }) ∧
     (l = [] ∨ 32 < l.length ∨ 127 < start ∨ 128 < start + l.length → exec .loadKernel s = .next (answered s q .badParam [])))

/-- LOAD_FILTER (R21): the filter replaced where the table keeps its chains to 4, else refused; every answer carries the filter number.

LOAD_LAYOUT (R29, R30): the descriptor replaced where its fields lie in range and its minimum length within 64, else refused. -/
def Obligations.LoadFilterAndLayoutReplaceTheEntry : Prop :=
  (∀ (s : State) (q : Request) (f : Filter), Requests s 0x24 q → f.offset < 256 →
     (∀ n : Index16, q.params = filterBytes n.val f →
       let c := s.classifier.setFilter n f
       let fits : Prop := ∀ h : Index16, c.isHead h.val = true → (c.chain h.val).length ≤ 4
       (f.offset ≤ 63 → ¬(n.val = 15 ∧ f.cascade = true) → fits →
         exec .loadFilter s = .next { answered s q .ok (pack8 n.val) with classifier := c }) ∧
       (63 < f.offset ∨ (n.val = 15 ∧ f.cascade = true) ∨ ¬fits → exec .loadFilter s = .next (answered s q .badParam (pack8 n.val)))) ∧
     (∀ n : Nat, 15 < n → n < 256 → q.params = filterBytes n f → exec .loadFilter s = .next (answered s q .badParam (pack8 n)))) ∧
  (∀ (s : State) (q : Request) (y : Layout), Requests s 0x25 q → LayoutInRange y →
     (∀ n : Index16, q.params = layoutBytes n.val y →
       let ends := [y.idOffset + 4, y.seqOffset + 2, y.measureOffset + 2] ++ (y.temperature.toList ++ y.flags.toList).map (· + 1)
       ((∀ e ∈ ends, e + 2 ≤ 64) → exec .loadLayout s = .next { answered s q .ok [] with
         classifier := { s.classifier with layouts := s.classifier.layouts.set n y } }) ∧
       ((∃ e ∈ ends, 64 < e + 2) → exec .loadLayout s = .next (answered s q .badParam []))) ∧
     (∀ n : Nat, 15 < n → n < 256 → q.params = layoutBytes n y → exec .loadLayout s = .next (answered s q .badParam [])))

/-! ### Reads of the bins, the list and the counters -/

/-- READ_BIN (R92, R175): the record as it stands, 74 + 2m + k bytes, and the clamp flags cleared after it under clear status.

READ_BIN_RANGE (R176): one entry for each slot from the start, at most count and none beyond 8191. -/
def Obligations.ReadBinsReturnTheRecords : Prop :=
  (∀ (s : State) (q : Request) (key : BinKey) (clear : Bool), Requests s 0x30 q → q.params = keyBytes key ++ packFlag clear →
     (NamesNone s key → exec .readBin s = .next (answered s q .notFound [])) ∧
     ∀ i : Slot, Names s key i →
       let done := answered s q .ok (packBinRecord i (s.record i))
       (packBinRecord i (s.record i)).length = 74 + 2 * (s.record i).ring.occupancy + (s.record i).candidates.length ∧
       exec .readBin s =
         .next (if clear then done.setRecord i { s.record i with lowClamp := false, highClamp := false } else done)) ∧
  (∀ (s : State) (q : Request) (start count : Nat), Requests s 0x31 q → start < 65536 → count < 256 →
     q.params = pack16 start ++ pack8 count →
     (8191 < start ∨ count = 0 ∨ 40 < count → exec .readBinRange s = .next (answered s q .badParam [])) ∧
     (start ≤ 8191 → 1 ≤ count → count ≤ 40 → ∃ slots : List Slot,
       slots.map Fin.val = (List.range (min count (8192 - start))).map (start + ·) ∧
       exec .readBinRange s = .next (answered s q .ok (pack8 slots.length ++ (slots.map fun i =>
         pack16 i.val ++ packFlag (decide ((s.record i).admin ≠ .free)) ++ pack32 (s.record i).identifier.toNat ++
           packOpt 2 pack16 (s.record i).estimate ++ pack8 (s.record i).band.code ++ pack8 (s.record i).liveness.code).flatten))))

/-- READ_VISIT_LIST (R111, R112): epoch, total, number and entries of the window, the FULL buckets from 62 down before the NEAR ones; a FULL
slot has the same rank in BOTH, a NEAR slot its rank in NEAR after all the FULL ones. -/
def Obligations.ReadVisitListReturnsTheWindow : Prop :=
  ∀ (s : State) (q : Request) (sel start maximum : Nat), Requests s 0x32 q → sel < 256 → start < 65536 → maximum < 256 →
    q.params = pack8 sel ++ pack16 start ++ pack8 maximum → VisitListSound s →
    (2 < sel ∨ 8191 < start ∨ maximum = 0 ∨ 24 < maximum → exec .readVisitList s = .next (answered s q .badParam [])) ∧
    (start ≤ 8191 → 1 ≤ maximum → maximum ≤ 24 →
      let full := s.visits.full.toList.reverse.flatten
      let near := s.visits.near.toList.reverse.flatten
      ∀ order : List Slot, (sel = 0 ∧ order = full ∨ sel = 1 ∧ order = near ∨ sel = 2 ∧ order = full ++ near) →
        ∃ ranked : List (Nat × Slot),
          ranked = ((List.range order.length).zip order).filter (fun e => decide (start ≤ e.1 ∧ e.1 < start + maximum)) ∧
          exec .readVisitList s = .next (answered s q .ok (pack16 s.visits.epoch.toNat ++ pack16 order.length ++ pack8 ranked.length ++
            (ranked.map fun e => packVisitEntry e.1 e.2 (s.record e.2)).flatten)))

/-- READ_DISCOVERY (R62, R177): every entry in list order, the list emptied after the read under clear. -/
def Obligations.ReadDiscoveryReadsThenClears : Prop :=
  ∀ (s : State) (q : Request) (clear : Bool), Requests s 0x33 q → q.params = packFlag clear →
    exec .readDiscovery s = .next { answered s q .ok (pack8 s.bins.discovery.length ++ (s.bins.discovery.map fun e =>
        pack32 e.identifier.toNat ++ pack32 e.firstHeard.toNat ++ pack32 e.lastHeard.toNat ++ pack16 e.count ++ pack8 e.filter.val).flatten)
      with bins := { s.bins with discovery := if clear then [] else s.bins.discovery } }

/-- READ_COUNTERS (R178, R184): the group number, the clear option, the time and the group, read before the clear; an unknown group refused,
a FREE slot's not found.

Clearing a group (R185, R186) zeroes every counter of it and no state: of what the group then reads, the counters are zero bytes and the
state fields as before. What the clear leaves outside these counters is as it was. -/
def Obligations.ReadCountersReadsThenClears : Prop :=
  (∀ (s : State) (q : Request) (n : Nat) (clear : Bool), Requests s 0x34 q → n < 65536 → q.params = pack16 n ++ packFlag clear →
     (8199 < n → exec .readCounters s = .next (answered s q .badParam [])) ∧
     (∀ i : Slot, n = i.val → (s.record i).admin = .free → exec .readCounters s = .next (answered s q .notFound [])) ∧
     ∀ g : CounterGroup, groupOf n = some g → (∀ i : Slot, n = i.val → (s.record i).admin ≠ .free) →
       let done := answered s q .ok (pack16 n ++ packFlag clear ++ pack32 s.mgmt.secs.toNat ++ s.packGroup g)
       exec .readCounters s = .next (if clear then done.clearGroup g else done)) ∧
  (∀ (s : State) (g : CounterGroup),
     let counterBytes : Nat :=
       match g with
       | .bin _ => 20
       | .lane => 128
       | .filter => 72
       | .copy => 8
       | .binProcessing => 24
       | .fill => 16
       | .downlink => 20
       | .egress => 20
       | .interval => 0
     (s.clearGroup g).packGroup g = List.replicate counterBytes 0 ++ (s.packGroup g).drop counterBytes) ∧
  (∀ s : State,
    let zeroed (k : Counters) : State := { s with stats := { s.stats with counters := k } }
    let c := s.stats.counters
    (∀ i : Slot, s.clearGroup (.bin i) = s.setRecord i { s.record i with counters := BinCounters.zero }) ∧
    (s.clearGroup .lane = { s with stats := { s.stats with laneCounters := Vector.replicate 4 LaneCounters.zero } }) ∧
    s.clearGroup .filter = zeroed { c with matched := Vector.replicate 16 0, defaultFrames := 0, lengthFailures := 0 } ∧
    s.clearGroup .copy = zeroed { c with copiesMerged := 0, evictions := 0 } ∧
    s.clearGroup .binProcessing =
      zeroed { c with unknowns := 0, discoveryOverflows := 0, repeats := 0, stale := 0, restarts := 0, mismatches := 0 } ∧
    s.clearGroup .fill = zeroed { c with rejected := 0, marked := 0, collections := 0, clamps := 0 } ∧
    s.clearGroup .downlink = zeroed { c with handed := 0, expired := 0, failed := 0, dropped := 0, downlinkDrops := 0 } ∧
    s.clearGroup .egress = zeroed { c with notices := 0, lostNotices := 0, digests := 0, forwardDrops := 0, managementDrops := 0 } ∧
    s.clearGroup .interval = s)

/-! ### Time -/

/-- The advance of the Second Count (R118, R150, R168, R181, R183): time, hold ages, pass timer and interval timer, each by one, with the pass
that starts at P and the interval that ends at S, at one event. That an advance commanded early makes the lacking milliseconds with it, and
waits for what the previous one brought about, is the model's choice (assumption 4), and so is the latched pass period (assumption 5). -/
def Obligations.SecondAdvanceMovesTimersAndHoldAges : Prop :=
  ∀ s : State, (s.settled = true ↔ (∀ l : Lane, (s.lanes[l]).announced = false) ∧
      ¬∃ (i : Slot) (n : Nat), s.sweep.position = some i ∧ s.sweep.timer = some n ∧ s.sweep.period ≤ n + 1) ∧
    (s.settled = true → ∃ t, exec .secondAdvance s = .next t ∧ SecondAdvanced s t) ∧
    (s.settled = false → exec .secondAdvance s = .next s)

/-- The advance that ends an interval (R181, R183): the interval timer back at 0, the end counted, timed and announced to every lane, at one
event. The advance that starts a pass (R118): the pass timer back at 0 and the position at slot 0. That INTERVAL_END and PASS_START are that
advance, and change nothing at another time, is the model's choice (assumptions 1 and 4). -/
def Obligations.IntervalEndAndPassStartBegin : Prop :=
  ∀ s : State,
    (s.settled = true → s.mgmt.params.interval ≤ s.stats.timer + 1 → ∃ t, exec .intervalEnd s = .next t ∧ SecondAdvanced s t ∧
      t.stats.timer = 0 ∧ t.stats.intervalCount = min 4294967295 (s.stats.intervalCount + 1) ∧ t.stats.lastEnd = t.mgmt.secs ∧
      ∀ l : Lane, (t.lanes[l]).announced = true) ∧
    (s.settled = false ∨ s.stats.timer + 1 < s.mgmt.params.interval → exec .intervalEnd s = .next s) ∧
    (∀ n, s.settled = true → s.sweep.timer = some n → s.sweep.period ≤ n + 1 → ∃ t, exec .passStart s = .next t ∧ SecondAdvanced s t ∧
      s.sweep.position = none ∧ t.sweep.position = some 0 ∧ t.sweep.timer = some 0) ∧
    (s.settled = false ∨ s.sweep.timer = none ∨ (∃ n, s.sweep.timer = some n ∧ n + 1 < s.sweep.period) →
      exec .passStart s = .next s)

/-- A sweep visit (R119 to R122): the missed figure written at an ACTIVE slot, the liveness declared, a notice where the table marks one;
other slots are passed over. Either way the position moves on. -/
def Obligations.SweepVisitDeclaresLateAndSilent : Prop :=
  ∀ (s : State) (i : Slot), s.sweep.position = some i →
    let r := s.record i
    let c := s.classOf i
    let difference := (s.mgmt.secs - r.lastHeard).toNat
    let missed := if 2147483648 ≤ difference then 0 else min 63 (difference / c.reportInterval)
    let live : Liveness :=
      if r.liveness ≠ .silent ∧ c.silentCount ≤ missed then .silent
      else if r.liveness = .reporting ∧ c.lateCount ≤ missed then .late
      else r.liveness
    let visited := s.setRecord i { r with missed := missed, liveness := live }
    ∃ (t u : State), exec .sweepVisit s = .next t ∧ t = { u with sweep := { s.sweep with position := t.sweep.position } } ∧
      (t.sweep.position.map Fin.val = if i.val = 8191 then none else some (i.val + 1)) ∧
      (r.admin ≠ .active → u = s) ∧
      (r.admin = .active → live ≠ r.liveness → live = .silent ∨ c.lateNotice = true →
        u = visited.notifySlot i (.liveness r.liveness live missed .visit)) ∧
      (r.admin = .active → live = r.liveness ∨ (live ≠ .silent ∧ c.lateNotice = false) → u = visited)

/-- The liveness arrival (R123, R124): state, recovery count and notice for each state at its start. -/
def Obligations.ArrivalLiftsLiveness : Prop :=
  ∀ (s : State) (i : Slot) (contiguous : Bool),
    let r := s.record i
    let c := s.classOf i
    let recovery := if r.liveness = .recovering ∧ contiguous = true then min 15 (r.recovery + 1) else 1
    let heard := s.setRecord i { r with liveness := .reporting }
    (r.liveness = .awaiting ∨ r.liveness = .reporting ∨ (r.liveness = .late ∧ c.lateNotice = false) → s.arrival i contiguous = heard) ∧
    (r.liveness = .late → c.lateNotice = true →
      s.arrival i contiguous = heard.notifySlot i (.liveness .late .reporting r.missed .arrival)) ∧
    (r.liveness = .silent ∨ r.liveness = .recovering → recovery < c.recoverCount →
      s.arrival i contiguous = s.setRecord i { r with liveness := .recovering, recovery := recovery }) ∧
    (r.liveness = .silent ∨ r.liveness = .recovering → c.recoverCount ≤ recovery →
      s.arrival i contiguous = (s.setRecord i { r with liveness := .reporting, recovery := recovery }).notifySlot i
        (.liveness r.liveness .reporting r.missed .arrival))

/-! ### The backhaul egress -/

/-- FLUSH_DIGEST (R152).

A digest grant (R153, R159, R190): the oldest notices, at most 20, leave in a frame with the sequence, the lost count and the time; the
sequence moves on, the lost count returns to 0, the flush is served. -/
def Obligations.DigestTakesTheOldestNotices : Prop :=
  (∀ (s : State) (q : Request), Requests s 0x35 q → q.params = [] →
     exec .flushDigest s = .next { answered s q .ok (pack16 s.notices.queue.length ++ pack16 s.notices.digestSequence.toNat) with
       notices := { s.notices with flushPending := true, flushRemaining := s.notices.queue.length } }) ∧
  (∀ s : State, s.egress.link = none → s.egress.responses = [] →
     (s.egress.forward = [] ∨ s.egress.starvation < s.mgmt.params.starvationLimit) →
     (20 ≤ s.notices.queue.length ∨ (∃ n ∈ s.notices.queue.head?, s.mgmt.params.hold ≤ n.holdAge) ∨ s.notices.flushPending = true) →
     let taken_ := s.notices.queue.take 20
     let left := if s.notices.flushPending then s.notices.flushRemaining - taken_.length else s.notices.flushRemaining
     let payload := pack16 s.notices.digestSequence.toNat ++ pack16 s.notices.lost ++ pack32 s.mgmt.secs.toNat ++ pack8 taken_.length ++
       (taken_.map fun n => n.notice.pack).flatten
     let head := [0x82#8] ++ pack16 payload.length ++ payload
     exec .digestGrant s = .next (({ s with
       notices :=
         { queue := s.notices.queue.drop 20, lost := 0, digestSequence := s.notices.digestSequence + 1
           flushPending := if left = 0 then false else s.notices.flushPending, flushRemaining := left }
       egress := { s.egress with
         link := some (head ++ pack16 (crc head).toNat)
         starvation := if s.egress.forward = [] then 0 else min 32 (s.egress.starvation + 1) } } : State).modCounters fun c =>
       { c with digests := min 4294967295 (c.digests + 1) }))

/-- The Egress Arbiter's choice (R151, R158): none while the link is SENDING; the Forward FIFO once the guard has run out; else responses,
then a ready digest, then forwarded records. The commands of the sources not chosen change nothing (assumption 1).

The frame that the link keeps while SENDING is the model's (assumption 6).

The done event (R160) returns the link to IDLE, whatever waits; that one at an IDLE link changes nothing is the model's reading
(assumption 17). That DIGEST_HOLD_DUE changes nothing stored is read from R151, which
latches no readiness (assumption 12). -/
def Obligations.EgressGrantsInPriorityWithTheGuard : Prop :=
  (∀ s : State,
     let forced : Prop := s.egress.forward ≠ [] ∧ s.mgmt.params.starvationLimit ≤ s.egress.starvation
     let ready : Prop := 20 ≤ s.notices.queue.length ∨ (∃ n ∈ s.notices.queue.head?, s.mgmt.params.hold ≤ n.holdAge) ∨
       s.notices.flushPending = true
     let busy : Prop := s.egress.link ≠ none
     (busy ∨ forced ∨ s.egress.responses = [] → exec .responseGrant s = .next s) ∧
     (busy ∨ forced ∨ s.egress.responses ≠ [] ∨ ¬ready → exec .digestGrant s = .next s) ∧
     (busy ∨ s.egress.forward = [] ∨ (¬forced ∧ (s.egress.responses ≠ [] ∨ ready)) → exec .forwardGrant s = .next s) ∧
     (∀ r rest, s.egress.responses = r :: rest → ¬busy → ¬forced → exec .responseGrant s = .next
       { s with egress := { s.egress with
           responses := rest, link := some r.frame
           starvation := if s.egress.forward = [] then 0 else min 32 (s.egress.starvation + 1) } }) ∧
     (∀ r rest, s.egress.forward = r :: rest → ¬busy → forced ∨ (s.egress.responses = [] ∧ ¬ready) → exec .forwardGrant s = .next
       { s with egress := { s.egress with forward := rest, link := some r.frame, starvation := 0 } })) ∧
  (∀ s : State, exec .egressDone s = .next { s with egress := { s.egress with link := none } } ∧ exec .digestHoldDue s = .next s)
end

