-- ==== Sys2Proof/Laws/Bytes.lean ====
section
/-! SUPPORT. Numbers and bytes: what a counter reaches, how long a packed number is, and that reading undoes packing. -/

namespace Sys2Proof.Machine

/-! ### Saturation and clamping -/

theorem satAdd_le (max k n : Nat) : satAdd max k n ≤ max := Nat.min_le_left ..

theorem satAdd_le_add (max k n : Nat) : satAdd max k n ≤ n + k := Nat.min_le_right ..

/-- A counter below its maximum counts. -/
theorem satAdd_of_lt {max k n : Nat} (h : n + k ≤ max) : satAdd max k n = n + k := Nat.min_eq_right h

/-- A counter at its maximum stays there. -/
theorem satAdd_self (max k : Nat) : satAdd max k max = max := Nat.min_eq_left (Nat.le_add_right ..)

/-- A clamped value lies in its range. -/
theorem clampNat_mem {lo hi : Nat} (h : lo ≤ hi) (n : Nat) : lo ≤ clampNat lo hi n ∧ clampNat lo hi n ≤ hi := by
  unfold clampNat; omega

/-- A value in range is not moved. -/
theorem clampNat_of_mem {lo hi n : Nat} (h₁ : lo ≤ n) (h₂ : n ≤ hi) : clampNat lo hi n = n := by
  unfold clampNat; omega

/-! ### Times -/

theorem atOrAfter_iff (a b : Word32) : atOrAfter a b = true ↔ (a - b).toNat < 2147483648 := by simp [atOrAfter]

theorem before_iff (a b : Word32) : before a b = true ↔ 2147483648 ≤ (a - b).toNat := by simp [before, atOrAfter]

@[simp] theorem atOrAfter_self (a : Word32) : atOrAfter a a = true := by simp [atOrAfter]

/-! ### Lengths -/

@[simp] theorem pack8_length (n : Nat) : (pack8 n).length = 1 := rfl
@[simp] theorem pack16_length (n : Nat) : (pack16 n).length = 2 := rfl
@[simp] theorem pack32_length (n : Nat) : (pack32 n).length = 4 := rfl
@[simp] theorem packInt8_length (i : Int) : (packInt8 i).length = 1 := rfl
@[simp] theorem packInt16_length (i : Int) : (packInt16 i).length = 2 := rfl
@[simp] theorem packFlag_length (b : Bool) : (packFlag b).length = 1 := rfl

/-- A field that may be absent takes the same room present or absent. -/
theorem packOpt_length {α : Type} (width : Nat) (pack : α → List Byte) (h : ∀ v, (pack v).length = width) (o : Option α) :
    (packOpt width pack o).length = 1 + width := by
  cases o <;> simp [packOpt, h, Nat.add_comm]

@[simp] theorem packOpt_none {α : Type} (width : Nat) (pack : α → List Byte) :
    packOpt width pack none = 0 :: List.replicate width 0 := rfl

@[simp] theorem packOpt_some {α : Type} (width : Nat) (pack : α → List Byte) (v : α) : packOpt width pack (some v) = 1 :: pack v := rfl

/-! ### Reading -/

@[simp] theorem read8_cons_zero (b : Byte) (l : List Byte) : read8 (b :: l) 0 = b.toNat := rfl

@[simp] theorem read8_cons_succ (b : Byte) (l : List Byte) (i : Nat) : read8 (b :: l) (i + 1) = read8 l i := rfl

theorem read8_lt (l : List Byte) (i : Nat) : read8 l i < 256 := (l.getD i 0).isLt

theorem read16_lt (l : List Byte) (i : Nat) : read16 l i < 65536 := by
  have h1 := read8_lt l i
  have h2 := read8_lt l (i + 1)
  unfold read16; omega

theorem read32_lt (l : List Byte) (i : Nat) : read32 l i < 4294967296 := by
  have h1 := read16_lt l i
  have h2 := read16_lt l (i + 2)
  unfold read32; omega

/-- Reading past a run of bytes reads what follows it. -/
theorem read8_append_right (l m : List Byte) (i : Nat) : read8 (l ++ m) (l.length + i) = read8 m i := by
  simp [read8, List.getD_eq_getElem?_getD, List.getElem?_append_right]

theorem read8_append_left {l : List Byte} (m : List Byte) {i : Nat} (h : i < l.length) : read8 (l ++ m) i = read8 l i := by
  simp [read8, List.getD_eq_getElem?_getD, List.getElem?_append_left h]

theorem read8_pack8 {n : Nat} (h : n < 256) (l : List Byte) : read8 (pack8 n ++ l) 0 = n := by
  simp [read8, pack8]; omega

theorem read16_pack16 {n : Nat} (h : n < 65536) (l : List Byte) : read16 (pack16 n ++ l) 0 = n := by
  simp [read16, read8, pack16]; omega

theorem read32_pack32 {n : Nat} (h : n < 4294967296) (l : List Byte) : read32 (pack32 n ++ l) 0 = n := by
  simp [read32, read16, read8, pack32]; omega

/-- A 16-bit quantity is read back as it was packed. -/
theorem read16_pack16_toNat (w : Word16) (l : List Byte) : BitVec.ofNat 16 (read16 (pack16 w.toNat ++ l) 0) = w := by
  rw [read16_pack16 w.isLt]; simp

/-- A 32-bit quantity is read back as it was packed. -/
theorem read32_pack32_toNat (w : Word32) (l : List Byte) : BitVec.ofNat 32 (read32 (pack32 w.toNat ++ l) 0) = w := by
  rw [read32_pack32 w.isLt]; simp

/-- A signed 2-byte number in range is read back as it was packed. -/
theorem readInt16_packInt16 {i : Int} (h₁ : -32768 ≤ i) (h₂ : i ≤ 32767) (l : List Byte) : readInt16 (packInt16 i ++ l) 0 = i := by
  unfold readInt16 packInt16
  rw [read16_pack16_toNat, BitVec.toInt_ofInt]
  exact Int.bmod_eq_of_le (by omega) (by omega)

/-- Packing is injective on numbers that fit: equal bytes, equal numbers. -/
theorem pack16_injective {n m : Nat} (hn : n < 65536) (hm : m < 65536) (h : pack16 n = pack16 m) : n = m := by
  have := congrArg (fun l => read16 (l ++ []) 0) h
  simpa only [read16_pack16 hn, read16_pack16 hm] using this

/-- The CRC of bytes followed by more is worked on from the CRC of the first. -/
theorem crc_append (l m : List Byte) : crc (l ++ m) = m.foldl crcByte (crc l) := by simp [crc]

end Sys2Proof.Machine
end

