-- ==== Sys2Proof/Laws/State.lean ====
section
/-! SUPPORT. One lemma per field per update of State: what a named update leaves as it was, and what it writes. All are true by unfolding the update, and are simp lemmas, so that no proof unfolds a record update. -/

namespace Sys2Proof.Machine

/-! ### Fields that an update leaves -/

@[simp] theorem State.setRecord_lanes (s : State) (i : Slot) (r : BinRecord) : (s.setRecord i r).lanes = s.lanes := rfl
@[simp] theorem State.setRecord_classifier (s : State) (i : Slot) (r : BinRecord) : (s.setRecord i r).classifier = s.classifier := rfl
@[simp] theorem State.setRecord_copies (s : State) (i : Slot) (r : BinRecord) : (s.setRecord i r).copies = s.copies := rfl
@[simp] theorem State.setRecord_stores (s : State) (i : Slot) (r : BinRecord) : (s.setRecord i r).stores = s.stores := rfl
@[simp] theorem State.setRecord_visits (s : State) (i : Slot) (r : BinRecord) : (s.setRecord i r).visits = s.visits := rfl
@[simp] theorem State.setRecord_sweep (s : State) (i : Slot) (r : BinRecord) : (s.setRecord i r).sweep = s.sweep := rfl
@[simp] theorem State.setRecord_downlink (s : State) (i : Slot) (r : BinRecord) : (s.setRecord i r).downlink = s.downlink := rfl
@[simp] theorem State.setRecord_notices (s : State) (i : Slot) (r : BinRecord) : (s.setRecord i r).notices = s.notices := rfl
@[simp] theorem State.setRecord_egress (s : State) (i : Slot) (r : BinRecord) : (s.setRecord i r).egress = s.egress := rfl
@[simp] theorem State.setRecord_mgmt (s : State) (i : Slot) (r : BinRecord) : (s.setRecord i r).mgmt = s.mgmt := rfl
@[simp] theorem State.setRecord_stats (s : State) (i : Slot) (r : BinRecord) : (s.setRecord i r).stats = s.stats := rfl
@[simp] theorem State.setRecord_pending (s : State) (i : Slot) (r : BinRecord) : (s.setRecord i r).pending = s.pending := rfl
@[simp] theorem State.setRecord_directory (s : State) (i : Slot) (r : BinRecord) : (s.setRecord i r).bins.directory = s.bins.directory := rfl
@[simp] theorem State.setRecord_discovery (s : State) (i : Slot) (r : BinRecord) : (s.setRecord i r).bins.discovery = s.bins.discovery := rfl

@[simp] theorem State.modRecord_lanes (s : State) (i : Slot) (f : BinRecord → BinRecord) : (s.modRecord i f).lanes = s.lanes := rfl
@[simp] theorem State.modRecord_classifier (s : State) (i : Slot) (f : BinRecord → BinRecord) : (s.modRecord i f).classifier = s.classifier := rfl
@[simp] theorem State.modRecord_copies (s : State) (i : Slot) (f : BinRecord → BinRecord) : (s.modRecord i f).copies = s.copies := rfl
@[simp] theorem State.modRecord_stores (s : State) (i : Slot) (f : BinRecord → BinRecord) : (s.modRecord i f).stores = s.stores := rfl
@[simp] theorem State.modRecord_visits (s : State) (i : Slot) (f : BinRecord → BinRecord) : (s.modRecord i f).visits = s.visits := rfl
@[simp] theorem State.modRecord_sweep (s : State) (i : Slot) (f : BinRecord → BinRecord) : (s.modRecord i f).sweep = s.sweep := rfl
@[simp] theorem State.modRecord_downlink (s : State) (i : Slot) (f : BinRecord → BinRecord) : (s.modRecord i f).downlink = s.downlink := rfl
@[simp] theorem State.modRecord_notices (s : State) (i : Slot) (f : BinRecord → BinRecord) : (s.modRecord i f).notices = s.notices := rfl
@[simp] theorem State.modRecord_egress (s : State) (i : Slot) (f : BinRecord → BinRecord) : (s.modRecord i f).egress = s.egress := rfl
@[simp] theorem State.modRecord_mgmt (s : State) (i : Slot) (f : BinRecord → BinRecord) : (s.modRecord i f).mgmt = s.mgmt := rfl
@[simp] theorem State.modRecord_stats (s : State) (i : Slot) (f : BinRecord → BinRecord) : (s.modRecord i f).stats = s.stats := rfl
@[simp] theorem State.modRecord_pending (s : State) (i : Slot) (f : BinRecord → BinRecord) : (s.modRecord i f).pending = s.pending := rfl
@[simp] theorem State.modRecord_directory (s : State) (i : Slot) (f : BinRecord → BinRecord) : (s.modRecord i f).bins.directory = s.bins.directory := rfl
@[simp] theorem State.modRecord_discovery (s : State) (i : Slot) (f : BinRecord → BinRecord) : (s.modRecord i f).bins.discovery = s.bins.discovery := rfl

@[simp] theorem State.mapRecords_lanes (s : State) (f : BinRecord → BinRecord) : (s.mapRecords f).lanes = s.lanes := rfl
@[simp] theorem State.mapRecords_classifier (s : State) (f : BinRecord → BinRecord) : (s.mapRecords f).classifier = s.classifier := rfl
@[simp] theorem State.mapRecords_copies (s : State) (f : BinRecord → BinRecord) : (s.mapRecords f).copies = s.copies := rfl
@[simp] theorem State.mapRecords_stores (s : State) (f : BinRecord → BinRecord) : (s.mapRecords f).stores = s.stores := rfl
@[simp] theorem State.mapRecords_visits (s : State) (f : BinRecord → BinRecord) : (s.mapRecords f).visits = s.visits := rfl
@[simp] theorem State.mapRecords_sweep (s : State) (f : BinRecord → BinRecord) : (s.mapRecords f).sweep = s.sweep := rfl
@[simp] theorem State.mapRecords_downlink (s : State) (f : BinRecord → BinRecord) : (s.mapRecords f).downlink = s.downlink := rfl
@[simp] theorem State.mapRecords_notices (s : State) (f : BinRecord → BinRecord) : (s.mapRecords f).notices = s.notices := rfl
@[simp] theorem State.mapRecords_egress (s : State) (f : BinRecord → BinRecord) : (s.mapRecords f).egress = s.egress := rfl
@[simp] theorem State.mapRecords_mgmt (s : State) (f : BinRecord → BinRecord) : (s.mapRecords f).mgmt = s.mgmt := rfl
@[simp] theorem State.mapRecords_stats (s : State) (f : BinRecord → BinRecord) : (s.mapRecords f).stats = s.stats := rfl
@[simp] theorem State.mapRecords_pending (s : State) (f : BinRecord → BinRecord) : (s.mapRecords f).pending = s.pending := rfl
@[simp] theorem State.mapRecords_directory (s : State) (f : BinRecord → BinRecord) : (s.mapRecords f).bins.directory = s.bins.directory := rfl
@[simp] theorem State.mapRecords_discovery (s : State) (f : BinRecord → BinRecord) : (s.mapRecords f).bins.discovery = s.bins.discovery := rfl

@[simp] theorem State.modBinCounters_lanes (s : State) (i : Slot) (f : BinCounters → BinCounters) : (s.modBinCounters i f).lanes = s.lanes := rfl
@[simp] theorem State.modBinCounters_classifier (s : State) (i : Slot) (f : BinCounters → BinCounters) : (s.modBinCounters i f).classifier = s.classifier := rfl
@[simp] theorem State.modBinCounters_copies (s : State) (i : Slot) (f : BinCounters → BinCounters) : (s.modBinCounters i f).copies = s.copies := rfl
@[simp] theorem State.modBinCounters_stores (s : State) (i : Slot) (f : BinCounters → BinCounters) : (s.modBinCounters i f).stores = s.stores := rfl
@[simp] theorem State.modBinCounters_visits (s : State) (i : Slot) (f : BinCounters → BinCounters) : (s.modBinCounters i f).visits = s.visits := rfl
@[simp] theorem State.modBinCounters_sweep (s : State) (i : Slot) (f : BinCounters → BinCounters) : (s.modBinCounters i f).sweep = s.sweep := rfl
@[simp] theorem State.modBinCounters_downlink (s : State) (i : Slot) (f : BinCounters → BinCounters) : (s.modBinCounters i f).downlink = s.downlink := rfl
@[simp] theorem State.modBinCounters_notices (s : State) (i : Slot) (f : BinCounters → BinCounters) : (s.modBinCounters i f).notices = s.notices := rfl
@[simp] theorem State.modBinCounters_egress (s : State) (i : Slot) (f : BinCounters → BinCounters) : (s.modBinCounters i f).egress = s.egress := rfl
@[simp] theorem State.modBinCounters_mgmt (s : State) (i : Slot) (f : BinCounters → BinCounters) : (s.modBinCounters i f).mgmt = s.mgmt := rfl
@[simp] theorem State.modBinCounters_stats (s : State) (i : Slot) (f : BinCounters → BinCounters) : (s.modBinCounters i f).stats = s.stats := rfl
@[simp] theorem State.modBinCounters_pending (s : State) (i : Slot) (f : BinCounters → BinCounters) : (s.modBinCounters i f).pending = s.pending := rfl
@[simp] theorem State.modBinCounters_directory (s : State) (i : Slot) (f : BinCounters → BinCounters) : (s.modBinCounters i f).bins.directory = s.bins.directory := rfl
@[simp] theorem State.modBinCounters_discovery (s : State) (i : Slot) (f : BinCounters → BinCounters) : (s.modBinCounters i f).bins.discovery = s.bins.discovery := rfl

@[simp] theorem State.modLane_classifier (s : State) (l : Lane) (f : LaneState → LaneState) : (s.modLane l f).classifier = s.classifier := rfl
@[simp] theorem State.modLane_copies (s : State) (l : Lane) (f : LaneState → LaneState) : (s.modLane l f).copies = s.copies := rfl
@[simp] theorem State.modLane_bins (s : State) (l : Lane) (f : LaneState → LaneState) : (s.modLane l f).bins = s.bins := rfl
@[simp] theorem State.modLane_stores (s : State) (l : Lane) (f : LaneState → LaneState) : (s.modLane l f).stores = s.stores := rfl
@[simp] theorem State.modLane_visits (s : State) (l : Lane) (f : LaneState → LaneState) : (s.modLane l f).visits = s.visits := rfl
@[simp] theorem State.modLane_sweep (s : State) (l : Lane) (f : LaneState → LaneState) : (s.modLane l f).sweep = s.sweep := rfl
@[simp] theorem State.modLane_downlink (s : State) (l : Lane) (f : LaneState → LaneState) : (s.modLane l f).downlink = s.downlink := rfl
@[simp] theorem State.modLane_notices (s : State) (l : Lane) (f : LaneState → LaneState) : (s.modLane l f).notices = s.notices := rfl
@[simp] theorem State.modLane_egress (s : State) (l : Lane) (f : LaneState → LaneState) : (s.modLane l f).egress = s.egress := rfl
@[simp] theorem State.modLane_mgmt (s : State) (l : Lane) (f : LaneState → LaneState) : (s.modLane l f).mgmt = s.mgmt := rfl
@[simp] theorem State.modLane_stats (s : State) (l : Lane) (f : LaneState → LaneState) : (s.modLane l f).stats = s.stats := rfl
@[simp] theorem State.modLane_pending (s : State) (l : Lane) (f : LaneState → LaneState) : (s.modLane l f).pending = s.pending := rfl

@[simp] theorem State.modLaneCounters_lanes (s : State) (l : Lane) (f : LaneCounters → LaneCounters) : (s.modLaneCounters l f).lanes = s.lanes := rfl
@[simp] theorem State.modLaneCounters_classifier (s : State) (l : Lane) (f : LaneCounters → LaneCounters) : (s.modLaneCounters l f).classifier = s.classifier := rfl
@[simp] theorem State.modLaneCounters_copies (s : State) (l : Lane) (f : LaneCounters → LaneCounters) : (s.modLaneCounters l f).copies = s.copies := rfl
@[simp] theorem State.modLaneCounters_bins (s : State) (l : Lane) (f : LaneCounters → LaneCounters) : (s.modLaneCounters l f).bins = s.bins := rfl
@[simp] theorem State.modLaneCounters_stores (s : State) (l : Lane) (f : LaneCounters → LaneCounters) : (s.modLaneCounters l f).stores = s.stores := rfl
@[simp] theorem State.modLaneCounters_visits (s : State) (l : Lane) (f : LaneCounters → LaneCounters) : (s.modLaneCounters l f).visits = s.visits := rfl
@[simp] theorem State.modLaneCounters_sweep (s : State) (l : Lane) (f : LaneCounters → LaneCounters) : (s.modLaneCounters l f).sweep = s.sweep := rfl
@[simp] theorem State.modLaneCounters_downlink (s : State) (l : Lane) (f : LaneCounters → LaneCounters) : (s.modLaneCounters l f).downlink = s.downlink := rfl
@[simp] theorem State.modLaneCounters_notices (s : State) (l : Lane) (f : LaneCounters → LaneCounters) : (s.modLaneCounters l f).notices = s.notices := rfl
@[simp] theorem State.modLaneCounters_egress (s : State) (l : Lane) (f : LaneCounters → LaneCounters) : (s.modLaneCounters l f).egress = s.egress := rfl
@[simp] theorem State.modLaneCounters_mgmt (s : State) (l : Lane) (f : LaneCounters → LaneCounters) : (s.modLaneCounters l f).mgmt = s.mgmt := rfl
@[simp] theorem State.modLaneCounters_pending (s : State) (l : Lane) (f : LaneCounters → LaneCounters) : (s.modLaneCounters l f).pending = s.pending := rfl
@[simp] theorem State.modLaneCounters_counters (s : State) (l : Lane) (f : LaneCounters → LaneCounters) : (s.modLaneCounters l f).stats.counters = s.stats.counters := rfl
@[simp] theorem State.modLaneCounters_timer (s : State) (l : Lane) (f : LaneCounters → LaneCounters) : (s.modLaneCounters l f).stats.timer = s.stats.timer := rfl
@[simp] theorem State.modLaneCounters_intervalCount (s : State) (l : Lane) (f : LaneCounters → LaneCounters) : (s.modLaneCounters l f).stats.intervalCount = s.stats.intervalCount := rfl
@[simp] theorem State.modLaneCounters_lastEnd (s : State) (l : Lane) (f : LaneCounters → LaneCounters) : (s.modLaneCounters l f).stats.lastEnd = s.stats.lastEnd := rfl
@[simp] theorem State.modLaneCounters_snapshots (s : State) (l : Lane) (f : LaneCounters → LaneCounters) : (s.modLaneCounters l f).stats.snapshots = s.stats.snapshots := rfl

@[simp] theorem State.modCounters_lanes (s : State) (f : Counters → Counters) : (s.modCounters f).lanes = s.lanes := rfl
@[simp] theorem State.modCounters_classifier (s : State) (f : Counters → Counters) : (s.modCounters f).classifier = s.classifier := rfl
@[simp] theorem State.modCounters_copies (s : State) (f : Counters → Counters) : (s.modCounters f).copies = s.copies := rfl
@[simp] theorem State.modCounters_bins (s : State) (f : Counters → Counters) : (s.modCounters f).bins = s.bins := rfl
@[simp] theorem State.modCounters_stores (s : State) (f : Counters → Counters) : (s.modCounters f).stores = s.stores := rfl
@[simp] theorem State.modCounters_visits (s : State) (f : Counters → Counters) : (s.modCounters f).visits = s.visits := rfl
@[simp] theorem State.modCounters_sweep (s : State) (f : Counters → Counters) : (s.modCounters f).sweep = s.sweep := rfl
@[simp] theorem State.modCounters_downlink (s : State) (f : Counters → Counters) : (s.modCounters f).downlink = s.downlink := rfl
@[simp] theorem State.modCounters_notices (s : State) (f : Counters → Counters) : (s.modCounters f).notices = s.notices := rfl
@[simp] theorem State.modCounters_egress (s : State) (f : Counters → Counters) : (s.modCounters f).egress = s.egress := rfl
@[simp] theorem State.modCounters_mgmt (s : State) (f : Counters → Counters) : (s.modCounters f).mgmt = s.mgmt := rfl
@[simp] theorem State.modCounters_pending (s : State) (f : Counters → Counters) : (s.modCounters f).pending = s.pending := rfl
@[simp] theorem State.modCounters_laneCounters (s : State) (f : Counters → Counters) : (s.modCounters f).stats.laneCounters = s.stats.laneCounters := rfl
@[simp] theorem State.modCounters_timer (s : State) (f : Counters → Counters) : (s.modCounters f).stats.timer = s.stats.timer := rfl
@[simp] theorem State.modCounters_intervalCount (s : State) (f : Counters → Counters) : (s.modCounters f).stats.intervalCount = s.stats.intervalCount := rfl
@[simp] theorem State.modCounters_lastEnd (s : State) (f : Counters → Counters) : (s.modCounters f).stats.lastEnd = s.stats.lastEnd := rfl
@[simp] theorem State.modCounters_snapshots (s : State) (f : Counters → Counters) : (s.modCounters f).stats.snapshots = s.stats.snapshots := rfl

@[simp] theorem State.respond_lanes (s : State) (q : Request) (a : Status) (b : List Byte) : (s.respond q a b).lanes = s.lanes := rfl
@[simp] theorem State.respond_classifier (s : State) (q : Request) (a : Status) (b : List Byte) : (s.respond q a b).classifier = s.classifier := rfl
@[simp] theorem State.respond_copies (s : State) (q : Request) (a : Status) (b : List Byte) : (s.respond q a b).copies = s.copies := rfl
@[simp] theorem State.respond_bins (s : State) (q : Request) (a : Status) (b : List Byte) : (s.respond q a b).bins = s.bins := rfl
@[simp] theorem State.respond_stores (s : State) (q : Request) (a : Status) (b : List Byte) : (s.respond q a b).stores = s.stores := rfl
@[simp] theorem State.respond_visits (s : State) (q : Request) (a : Status) (b : List Byte) : (s.respond q a b).visits = s.visits := rfl
@[simp] theorem State.respond_sweep (s : State) (q : Request) (a : Status) (b : List Byte) : (s.respond q a b).sweep = s.sweep := rfl
@[simp] theorem State.respond_downlink (s : State) (q : Request) (a : Status) (b : List Byte) : (s.respond q a b).downlink = s.downlink := rfl
@[simp] theorem State.respond_notices (s : State) (q : Request) (a : Status) (b : List Byte) : (s.respond q a b).notices = s.notices := rfl
@[simp] theorem State.respond_mgmt (s : State) (q : Request) (a : Status) (b : List Byte) : (s.respond q a b).mgmt = s.mgmt := rfl
@[simp] theorem State.respond_stats (s : State) (q : Request) (a : Status) (b : List Byte) : (s.respond q a b).stats = s.stats := rfl
@[simp] theorem State.respond_pending (s : State) (q : Request) (a : Status) (b : List Byte) : (s.respond q a b).pending = s.pending := rfl
@[simp] theorem State.respond_forward (s : State) (q : Request) (a : Status) (b : List Byte) : (s.respond q a b).egress.forward = s.egress.forward := rfl
@[simp] theorem State.respond_link (s : State) (q : Request) (a : Status) (b : List Byte) : (s.respond q a b).egress.link = s.egress.link := rfl
@[simp] theorem State.respond_starvation (s : State) (q : Request) (a : Status) (b : List Byte) : (s.respond q a b).egress.starvation = s.egress.starvation := rfl

@[simp] theorem State.setPending_lanes (s : State) (i : Slot) (b : Bool) : (s.setPending i b).lanes = s.lanes := rfl
@[simp] theorem State.setPending_classifier (s : State) (i : Slot) (b : Bool) : (s.setPending i b).classifier = s.classifier := rfl
@[simp] theorem State.setPending_copies (s : State) (i : Slot) (b : Bool) : (s.setPending i b).copies = s.copies := rfl
@[simp] theorem State.setPending_stores (s : State) (i : Slot) (b : Bool) : (s.setPending i b).stores = s.stores := rfl
@[simp] theorem State.setPending_visits (s : State) (i : Slot) (b : Bool) : (s.setPending i b).visits = s.visits := rfl
@[simp] theorem State.setPending_sweep (s : State) (i : Slot) (b : Bool) : (s.setPending i b).sweep = s.sweep := rfl
@[simp] theorem State.setPending_downlink (s : State) (i : Slot) (b : Bool) : (s.setPending i b).downlink = s.downlink := rfl
@[simp] theorem State.setPending_notices (s : State) (i : Slot) (b : Bool) : (s.setPending i b).notices = s.notices := rfl
@[simp] theorem State.setPending_egress (s : State) (i : Slot) (b : Bool) : (s.setPending i b).egress = s.egress := rfl
@[simp] theorem State.setPending_mgmt (s : State) (i : Slot) (b : Bool) : (s.setPending i b).mgmt = s.mgmt := rfl
@[simp] theorem State.setPending_stats (s : State) (i : Slot) (b : Bool) : (s.setPending i b).stats = s.stats := rfl
@[simp] theorem State.setPending_pending (s : State) (i : Slot) (b : Bool) : (s.setPending i b).pending = s.pending := rfl
@[simp] theorem State.setPending_directory (s : State) (i : Slot) (b : Bool) : (s.setPending i b).bins.directory = s.bins.directory := rfl
@[simp] theorem State.setPending_discovery (s : State) (i : Slot) (b : Bool) : (s.setPending i b).bins.discovery = s.bins.discovery := rfl

@[simp] theorem State.tick_lanes (s : State) : (s.tick).lanes = s.lanes := rfl
@[simp] theorem State.tick_classifier (s : State) : (s.tick).classifier = s.classifier := rfl
@[simp] theorem State.tick_copies (s : State) : (s.tick).copies = s.copies := rfl
@[simp] theorem State.tick_bins (s : State) : (s.tick).bins = s.bins := rfl
@[simp] theorem State.tick_stores (s : State) : (s.tick).stores = s.stores := rfl
@[simp] theorem State.tick_visits (s : State) : (s.tick).visits = s.visits := rfl
@[simp] theorem State.tick_sweep (s : State) : (s.tick).sweep = s.sweep := rfl
@[simp] theorem State.tick_downlink (s : State) : (s.tick).downlink = s.downlink := rfl
@[simp] theorem State.tick_notices (s : State) : (s.tick).notices = s.notices := rfl
@[simp] theorem State.tick_egress (s : State) : (s.tick).egress = s.egress := rfl
@[simp] theorem State.tick_stats (s : State) : (s.tick).stats = s.stats := rfl
@[simp] theorem State.tick_pending (s : State) : (s.tick).pending = s.pending := rfl
@[simp] theorem State.tick_requests (s : State) : (s.tick).mgmt.requests = s.mgmt.requests := rfl
@[simp] theorem State.tick_running (s : State) : (s.tick).mgmt.running = s.mgmt.running := rfl
@[simp] theorem State.tick_secs (s : State) : (s.tick).mgmt.secs = s.mgmt.secs := rfl
@[simp] theorem State.tick_params (s : State) : (s.tick).mgmt.params = s.mgmt.params := rfl

@[simp] theorem State.dropRequest_lanes (s : State) : (s.dropRequest).lanes = s.lanes := rfl
@[simp] theorem State.dropRequest_classifier (s : State) : (s.dropRequest).classifier = s.classifier := rfl
@[simp] theorem State.dropRequest_copies (s : State) : (s.dropRequest).copies = s.copies := rfl
@[simp] theorem State.dropRequest_bins (s : State) : (s.dropRequest).bins = s.bins := rfl
@[simp] theorem State.dropRequest_stores (s : State) : (s.dropRequest).stores = s.stores := rfl
@[simp] theorem State.dropRequest_visits (s : State) : (s.dropRequest).visits = s.visits := rfl
@[simp] theorem State.dropRequest_sweep (s : State) : (s.dropRequest).sweep = s.sweep := rfl
@[simp] theorem State.dropRequest_downlink (s : State) : (s.dropRequest).downlink = s.downlink := rfl
@[simp] theorem State.dropRequest_notices (s : State) : (s.dropRequest).notices = s.notices := rfl
@[simp] theorem State.dropRequest_egress (s : State) : (s.dropRequest).egress = s.egress := rfl
@[simp] theorem State.dropRequest_stats (s : State) : (s.dropRequest).stats = s.stats := rfl
@[simp] theorem State.dropRequest_pending (s : State) : (s.dropRequest).pending = s.pending := rfl
@[simp] theorem State.dropRequest_running (s : State) : (s.dropRequest).mgmt.running = s.mgmt.running := rfl
@[simp] theorem State.dropRequest_ms (s : State) : (s.dropRequest).mgmt.ms = s.mgmt.ms := rfl
@[simp] theorem State.dropRequest_secs (s : State) : (s.dropRequest).mgmt.secs = s.mgmt.secs := rfl
@[simp] theorem State.dropRequest_phase (s : State) : (s.dropRequest).mgmt.phase = s.mgmt.phase := rfl
@[simp] theorem State.dropRequest_params (s : State) : (s.dropRequest).mgmt.params = s.mgmt.params := rfl

@[simp] theorem State.setWay_lanes (s : State) (k : Fin 16384) (w : DirWay) : (s.setWay k w).lanes = s.lanes := rfl
@[simp] theorem State.setWay_classifier (s : State) (k : Fin 16384) (w : DirWay) : (s.setWay k w).classifier = s.classifier := rfl
@[simp] theorem State.setWay_copies (s : State) (k : Fin 16384) (w : DirWay) : (s.setWay k w).copies = s.copies := rfl
@[simp] theorem State.setWay_stores (s : State) (k : Fin 16384) (w : DirWay) : (s.setWay k w).stores = s.stores := rfl
@[simp] theorem State.setWay_visits (s : State) (k : Fin 16384) (w : DirWay) : (s.setWay k w).visits = s.visits := rfl
@[simp] theorem State.setWay_sweep (s : State) (k : Fin 16384) (w : DirWay) : (s.setWay k w).sweep = s.sweep := rfl
@[simp] theorem State.setWay_downlink (s : State) (k : Fin 16384) (w : DirWay) : (s.setWay k w).downlink = s.downlink := rfl
@[simp] theorem State.setWay_notices (s : State) (k : Fin 16384) (w : DirWay) : (s.setWay k w).notices = s.notices := rfl
@[simp] theorem State.setWay_egress (s : State) (k : Fin 16384) (w : DirWay) : (s.setWay k w).egress = s.egress := rfl
@[simp] theorem State.setWay_mgmt (s : State) (k : Fin 16384) (w : DirWay) : (s.setWay k w).mgmt = s.mgmt := rfl
@[simp] theorem State.setWay_stats (s : State) (k : Fin 16384) (w : DirWay) : (s.setWay k w).stats = s.stats := rfl
@[simp] theorem State.setWay_pending (s : State) (k : Fin 16384) (w : DirWay) : (s.setWay k w).pending = s.pending := rfl
@[simp] theorem State.setWay_records (s : State) (k : Fin 16384) (w : DirWay) : (s.setWay k w).bins.records = s.bins.records := rfl
@[simp] theorem State.setWay_discovery (s : State) (k : Fin 16384) (w : DirWay) : (s.setWay k w).bins.discovery = s.bins.discovery := rfl

@[simp] theorem State.setSnapshot_lanes (s : State) (l : Lane) (a b : Nat) (c : Option IntervalClass) : (s.setSnapshot l a b c).lanes = s.lanes := rfl
@[simp] theorem State.setSnapshot_classifier (s : State) (l : Lane) (a b : Nat) (c : Option IntervalClass) : (s.setSnapshot l a b c).classifier = s.classifier := rfl
@[simp] theorem State.setSnapshot_copies (s : State) (l : Lane) (a b : Nat) (c : Option IntervalClass) : (s.setSnapshot l a b c).copies = s.copies := rfl
@[simp] theorem State.setSnapshot_bins (s : State) (l : Lane) (a b : Nat) (c : Option IntervalClass) : (s.setSnapshot l a b c).bins = s.bins := rfl
@[simp] theorem State.setSnapshot_stores (s : State) (l : Lane) (a b : Nat) (c : Option IntervalClass) : (s.setSnapshot l a b c).stores = s.stores := rfl
@[simp] theorem State.setSnapshot_visits (s : State) (l : Lane) (a b : Nat) (c : Option IntervalClass) : (s.setSnapshot l a b c).visits = s.visits := rfl
@[simp] theorem State.setSnapshot_sweep (s : State) (l : Lane) (a b : Nat) (c : Option IntervalClass) : (s.setSnapshot l a b c).sweep = s.sweep := rfl
@[simp] theorem State.setSnapshot_downlink (s : State) (l : Lane) (a b : Nat) (c : Option IntervalClass) : (s.setSnapshot l a b c).downlink = s.downlink := rfl
@[simp] theorem State.setSnapshot_notices (s : State) (l : Lane) (a b : Nat) (c : Option IntervalClass) : (s.setSnapshot l a b c).notices = s.notices := rfl
@[simp] theorem State.setSnapshot_egress (s : State) (l : Lane) (a b : Nat) (c : Option IntervalClass) : (s.setSnapshot l a b c).egress = s.egress := rfl
@[simp] theorem State.setSnapshot_mgmt (s : State) (l : Lane) (a b : Nat) (c : Option IntervalClass) : (s.setSnapshot l a b c).mgmt = s.mgmt := rfl
@[simp] theorem State.setSnapshot_pending (s : State) (l : Lane) (a b : Nat) (c : Option IntervalClass) : (s.setSnapshot l a b c).pending = s.pending := rfl
@[simp] theorem State.setSnapshot_laneCounters (s : State) (l : Lane) (a b : Nat) (c : Option IntervalClass) : (s.setSnapshot l a b c).stats.laneCounters = s.stats.laneCounters := rfl
@[simp] theorem State.setSnapshot_counters (s : State) (l : Lane) (a b : Nat) (c : Option IntervalClass) : (s.setSnapshot l a b c).stats.counters = s.stats.counters := rfl
@[simp] theorem State.setSnapshot_timer (s : State) (l : Lane) (a b : Nat) (c : Option IntervalClass) : (s.setSnapshot l a b c).stats.timer = s.stats.timer := rfl
@[simp] theorem State.setSnapshot_intervalCount (s : State) (l : Lane) (a b : Nat) (c : Option IntervalClass) : (s.setSnapshot l a b c).stats.intervalCount = s.stats.intervalCount := rfl
@[simp] theorem State.setSnapshot_lastEnd (s : State) (l : Lane) (a b : Nat) (c : Option IntervalClass) : (s.setSnapshot l a b c).stats.lastEnd = s.stats.lastEnd := rfl

@[simp] theorem State.endSend_lanes (s : State) : (s.endSend).lanes = s.lanes := rfl
@[simp] theorem State.endSend_classifier (s : State) : (s.endSend).classifier = s.classifier := rfl
@[simp] theorem State.endSend_copies (s : State) : (s.endSend).copies = s.copies := rfl
@[simp] theorem State.endSend_bins (s : State) : (s.endSend).bins = s.bins := rfl
@[simp] theorem State.endSend_stores (s : State) : (s.endSend).stores = s.stores := rfl
@[simp] theorem State.endSend_visits (s : State) : (s.endSend).visits = s.visits := rfl
@[simp] theorem State.endSend_sweep (s : State) : (s.endSend).sweep = s.sweep := rfl
@[simp] theorem State.endSend_notices (s : State) : (s.endSend).notices = s.notices := rfl
@[simp] theorem State.endSend_egress (s : State) : (s.endSend).egress = s.egress := rfl
@[simp] theorem State.endSend_mgmt (s : State) : (s.endSend).mgmt = s.mgmt := rfl
@[simp] theorem State.endSend_stats (s : State) : (s.endSend).stats = s.stats := rfl
@[simp] theorem State.endSend_pending (s : State) : (s.endSend).pending = s.pending := rfl
@[simp] theorem State.endSend_queue (s : State) : (s.endSend).downlink.queue = s.downlink.queue := rfl
@[simp] theorem State.endSend_frames (s : State) : (s.endSend).downlink.frames = s.downlink.frames := rfl

@[simp] theorem State.managementDrop_lanes (s : State) : (s.managementDrop).lanes = s.lanes := rfl
@[simp] theorem State.managementDrop_classifier (s : State) : (s.managementDrop).classifier = s.classifier := rfl
@[simp] theorem State.managementDrop_copies (s : State) : (s.managementDrop).copies = s.copies := rfl
@[simp] theorem State.managementDrop_bins (s : State) : (s.managementDrop).bins = s.bins := rfl
@[simp] theorem State.managementDrop_stores (s : State) : (s.managementDrop).stores = s.stores := rfl
@[simp] theorem State.managementDrop_visits (s : State) : (s.managementDrop).visits = s.visits := rfl
@[simp] theorem State.managementDrop_sweep (s : State) : (s.managementDrop).sweep = s.sweep := rfl
@[simp] theorem State.managementDrop_downlink (s : State) : (s.managementDrop).downlink = s.downlink := rfl
@[simp] theorem State.managementDrop_notices (s : State) : (s.managementDrop).notices = s.notices := rfl
@[simp] theorem State.managementDrop_egress (s : State) : (s.managementDrop).egress = s.egress := rfl
@[simp] theorem State.managementDrop_mgmt (s : State) : (s.managementDrop).mgmt = s.mgmt := rfl
@[simp] theorem State.managementDrop_pending (s : State) : (s.managementDrop).pending = s.pending := rfl
@[simp] theorem State.managementDrop_laneCounters (s : State) : (s.managementDrop).stats.laneCounters = s.stats.laneCounters := rfl
@[simp] theorem State.managementDrop_timer (s : State) : (s.managementDrop).stats.timer = s.stats.timer := rfl
@[simp] theorem State.managementDrop_intervalCount (s : State) : (s.managementDrop).stats.intervalCount = s.stats.intervalCount := rfl
@[simp] theorem State.managementDrop_lastEnd (s : State) : (s.managementDrop).stats.lastEnd = s.stats.lastEnd := rfl
@[simp] theorem State.managementDrop_snapshots (s : State) : (s.managementDrop).stats.snapshots = s.stats.snapshots := rfl

/-! ### What an update writes -/

@[simp] theorem State.modCounters_counters (s : State) (f : Counters → Counters) : (s.modCounters f).stats.counters = f s.stats.counters := rfl

@[simp] theorem State.respond_responses (s : State) (q : Request) (a : Status) (b : List Byte) :
    (s.respond q a b).egress.responses = s.egress.responses ++ [{ tag := q.tag, code := q.code, status := a, results := b }] := rfl

@[simp] theorem State.dropRequest_requests (s : State) : s.dropRequest.mgmt.requests = s.mgmt.requests.tail := rfl

@[simp] theorem State.tick_ms (s : State) : s.tick.mgmt.ms = s.mgmt.ms + 1 := rfl

@[simp] theorem State.tick_phase (s : State) : s.tick.mgmt.phase = s.mgmt.phase + 1 := rfl

@[simp] theorem State.endSend_tx (s : State) : s.endSend.downlink.tx = none := rfl

/-! ### Records -/

/-- What the record of a slot is after one record is replaced. -/
theorem State.record_setRecord (s : State) (i j : Slot) (r : BinRecord) :
    (s.setRecord i r).record j = if i = j then r else s.record j := by
  simp only [State.record, State.setRecord, Fin.getElem_fin, Vector.getElem_set, Fin.ext_iff]

@[simp] theorem State.record_setRecord_self (s : State) (i : Slot) (r : BinRecord) : (s.setRecord i r).record i = r := by
  simp [State.record_setRecord]

@[simp] theorem State.record_setRecord_ne (s : State) {i j : Slot} (r : BinRecord) (h : i ≠ j) :
    (s.setRecord i r).record j = s.record j := by
  simp [State.record_setRecord, h]

/-- What the record of a slot is after one record is changed. -/
theorem State.record_modRecord (s : State) (i j : Slot) (f : BinRecord → BinRecord) :
    (s.modRecord i f).record j = if i = j then f (s.record i) else s.record j := State.record_setRecord s i j _

@[simp] theorem State.record_modRecord_self (s : State) (i : Slot) (f : BinRecord → BinRecord) :
    (s.modRecord i f).record i = f (s.record i) := State.record_setRecord_self s i _

@[simp] theorem State.record_modRecord_ne (s : State) {i j : Slot} (f : BinRecord → BinRecord) (h : i ≠ j) :
    (s.modRecord i f).record j = s.record j := State.record_setRecord_ne s _ h

/-- A change made to every record is made at each. -/
@[simp] theorem State.record_mapRecords (s : State) (f : BinRecord → BinRecord) (i : Slot) :
    (s.mapRecords f).record i = f (s.record i) := by
  simp [State.record, State.mapRecords, Vector.getElem_toList]

/-- A record replaced twice is replaced by the later one. -/
@[simp] theorem State.setRecord_setRecord (s : State) (i : Slot) (r q : BinRecord) : (s.setRecord i r).setRecord i q = s.setRecord i q := by
  simp [State.setRecord]

/-- Replacing a record by itself changes nothing. -/
@[simp] theorem State.setRecord_record (s : State) (i : Slot) : s.setRecord i (s.record i) = s := by
  simp [State.setRecord, State.record]

@[simp] theorem State.record_modLane (s : State) (l : Lane) (f : LaneState → LaneState) (i : Slot) : (s.modLane l f).record i = s.record i := rfl
@[simp] theorem State.record_modLaneCounters (s : State) (l : Lane) (f : LaneCounters → LaneCounters) (i : Slot) : (s.modLaneCounters l f).record i = s.record i := rfl
@[simp] theorem State.record_modCounters (s : State) (f : Counters → Counters) (i : Slot) : (s.modCounters f).record i = s.record i := rfl
@[simp] theorem State.record_respond (s : State) (q : Request) (a : Status) (b : List Byte) (i : Slot) : (s.respond q a b).record i = s.record i := rfl
@[simp] theorem State.record_tick (s : State) (i : Slot) : (s.tick).record i = s.record i := rfl
@[simp] theorem State.record_dropRequest (s : State) (i : Slot) : (s.dropRequest).record i = s.record i := rfl
@[simp] theorem State.record_setSnapshot (s : State) (l : Lane) (a b : Nat) (c : Option IntervalClass) (i : Slot) : (s.setSnapshot l a b c).record i = s.record i := rfl
@[simp] theorem State.record_endSend (s : State) (i : Slot) : (s.endSend).record i = s.record i := rfl
@[simp] theorem State.record_managementDrop (s : State) (i : Slot) : (s.managementDrop).record i = s.record i := rfl
@[simp] theorem State.record_setWay (s : State) (k : Fin 16384) (w : DirWay) (i : Slot) : (s.setWay k w).record i = s.record i := rfl

/-! ### Lanes -/

/-- What a lane is after one lane is changed. -/
theorem State.lane_modLane (s : State) (l m : Lane) (f : LaneState → LaneState) :
    (s.modLane l f).lanes[m] = if l = m then f s.lanes[l] else s.lanes[m] := by
  simp only [State.modLane, Fin.getElem_fin, Vector.getElem_set, Fin.ext_iff]

@[simp] theorem State.lane_modLane_self (s : State) (l : Lane) (f : LaneState → LaneState) :
    (s.modLane l f).lanes[l.val] = f s.lanes[l.val] := by
  simpa using State.lane_modLane s l l f

@[simp] theorem State.lane_modLane_ne (s : State) {l m : Lane} (f : LaneState → LaneState) (h : l ≠ m) :
    (s.modLane l f).lanes[m.val] = s.lanes[m.val] := by
  simpa [h] using State.lane_modLane s l m f

/-- A change made to every lane is made at each. -/
@[simp] theorem getElem_mapLanes (v : Vector LaneState 4) (f : LaneState → LaneState) (l : Nat) (h : l < 4) : (mapLanes v f)[l] = f v[l] := by
  simp [mapLanes, Vector.getElem_toList]

end Sys2Proof.Machine
end

