-- ==== Sys2Proof/Laws/Ops.lean ====
section
/-! SUPPORT. What each shared operation can do, said once: handing over a notice or a forwarded record, the lookups of the Bin Directory and of the free slot, and the taking of a request. -/

namespace Sys2Proof.Machine

/-! ### Notices -/

/-- A notice joins the tail, or is lost and counted (R149). -/
theorem State.notify_cases (s : State) (n : Notice) :
    (s.notices.queue.length < Config.noticeQueueSize ∧
      s.notify n =
        { s with
          notices := { s.notices with queue := s.notices.queue ++ [{ notice := n, holdAge := 0 }] }
          stats := { s.stats with counters := { s.stats.counters with notices := inc32 s.stats.counters.notices } } }) ∨
    (Config.noticeQueueSize ≤ s.notices.queue.length ∧
      s.notify n =
        { s with
          notices := { s.notices with lost := satAdd Config.max16 1 s.notices.lost }
          stats := { s.stats with counters := { s.stats.counters with lostNotices := inc32 s.stats.counters.lostNotices } } }) := by
  unfold State.notify
  split
  · exact .inl ⟨‹_›, rfl⟩
  · exact .inr ⟨Nat.le_of_not_lt ‹_›, rfl⟩

@[simp] theorem State.notify_lanes (s : State) (n : Notice) : (s.notify n).lanes = s.lanes := by unfold State.notify; split <;> rfl
@[simp] theorem State.notify_classifier (s : State) (n : Notice) : (s.notify n).classifier = s.classifier := by unfold State.notify; split <;> rfl
@[simp] theorem State.notify_copies (s : State) (n : Notice) : (s.notify n).copies = s.copies := by unfold State.notify; split <;> rfl
@[simp] theorem State.notify_bins (s : State) (n : Notice) : (s.notify n).bins = s.bins := by unfold State.notify; split <;> rfl
@[simp] theorem State.notify_stores (s : State) (n : Notice) : (s.notify n).stores = s.stores := by unfold State.notify; split <;> rfl
@[simp] theorem State.notify_visits (s : State) (n : Notice) : (s.notify n).visits = s.visits := by unfold State.notify; split <;> rfl
@[simp] theorem State.notify_sweep (s : State) (n : Notice) : (s.notify n).sweep = s.sweep := by unfold State.notify; split <;> rfl
@[simp] theorem State.notify_downlink (s : State) (n : Notice) : (s.notify n).downlink = s.downlink := by unfold State.notify; split <;> rfl
@[simp] theorem State.notify_egress (s : State) (n : Notice) : (s.notify n).egress = s.egress := by unfold State.notify; split <;> rfl
@[simp] theorem State.notify_mgmt (s : State) (n : Notice) : (s.notify n).mgmt = s.mgmt := by unfold State.notify; split <;> rfl
@[simp] theorem State.notify_pending (s : State) (n : Notice) : (s.notify n).pending = s.pending := by unfold State.notify; split <;> rfl
@[simp] theorem State.record_notify (s : State) (n : Notice) (i : Slot) : (s.notify n).record i = s.record i := by simp [State.record]
@[simp] theorem State.notify_laneCounters (s : State) (n : Notice) : (s.notify n).stats.laneCounters = s.stats.laneCounters := by unfold State.notify; split <;> rfl
@[simp] theorem State.notify_timer (s : State) (n : Notice) : (s.notify n).stats.timer = s.stats.timer := by unfold State.notify; split <;> rfl
@[simp] theorem State.notify_intervalCount (s : State) (n : Notice) : (s.notify n).stats.intervalCount = s.stats.intervalCount := by unfold State.notify; split <;> rfl
@[simp] theorem State.notify_lastEnd (s : State) (n : Notice) : (s.notify n).stats.lastEnd = s.stats.lastEnd := by unfold State.notify; split <;> rfl
@[simp] theorem State.notify_snapshots (s : State) (n : Notice) : (s.notify n).stats.snapshots = s.stats.snapshots := by unfold State.notify; split <;> rfl
@[simp] theorem State.notifySlot_lanes (s : State) (i : Slot) (b : NoticeBody) : (s.notifySlot i b).lanes = s.lanes := by simp [State.notifySlot]
@[simp] theorem State.notifySlot_classifier (s : State) (i : Slot) (b : NoticeBody) : (s.notifySlot i b).classifier = s.classifier := by simp [State.notifySlot]
@[simp] theorem State.notifySlot_copies (s : State) (i : Slot) (b : NoticeBody) : (s.notifySlot i b).copies = s.copies := by simp [State.notifySlot]
@[simp] theorem State.notifySlot_bins (s : State) (i : Slot) (b : NoticeBody) : (s.notifySlot i b).bins = s.bins := by simp [State.notifySlot]
@[simp] theorem State.notifySlot_stores (s : State) (i : Slot) (b : NoticeBody) : (s.notifySlot i b).stores = s.stores := by simp [State.notifySlot]
@[simp] theorem State.notifySlot_visits (s : State) (i : Slot) (b : NoticeBody) : (s.notifySlot i b).visits = s.visits := by simp [State.notifySlot]
@[simp] theorem State.notifySlot_sweep (s : State) (i : Slot) (b : NoticeBody) : (s.notifySlot i b).sweep = s.sweep := by simp [State.notifySlot]
@[simp] theorem State.notifySlot_downlink (s : State) (i : Slot) (b : NoticeBody) : (s.notifySlot i b).downlink = s.downlink := by simp [State.notifySlot]
@[simp] theorem State.notifySlot_egress (s : State) (i : Slot) (b : NoticeBody) : (s.notifySlot i b).egress = s.egress := by simp [State.notifySlot]
@[simp] theorem State.notifySlot_mgmt (s : State) (i : Slot) (b : NoticeBody) : (s.notifySlot i b).mgmt = s.mgmt := by simp [State.notifySlot]
@[simp] theorem State.notifySlot_pending (s : State) (i : Slot) (b : NoticeBody) : (s.notifySlot i b).pending = s.pending := by simp [State.notifySlot]
@[simp] theorem State.record_notifySlot (s : State) (i j : Slot) (b : NoticeBody) : (s.notifySlot i b).record j = s.record j := by simp [State.notifySlot]

/-- The Notice Queue keeps to its places. -/
theorem State.notify_length_le (s : State) (n : Notice) (h : s.notices.queue.length ≤ Config.noticeQueueSize) :
    (s.notify n).notices.queue.length ≤ Config.noticeQueueSize := by
  rcases s.notify_cases n with ⟨hlt, e⟩ | ⟨_, e⟩ <;> rw [e]
  · simpa using hlt
  · exact h

/-! ### Forwarded records -/

/-- A forwarded record joins the tail, or is dropped and counted (R155). -/
theorem State.forwardJoin_cases (s : State) (r : ForwardRecord) :
    (s.egress.forward.length < Config.forwardFifoDepth ∧
      s.forwardJoin r = { s with egress := { s.egress with forward := s.egress.forward ++ [r] } }) ∨
    (Config.forwardFifoDepth ≤ s.egress.forward.length ∧
      s.forwardJoin r = s.modCounters fun c => { c with forwardDrops := inc32 c.forwardDrops }) := by
  unfold State.forwardJoin
  split
  · exact .inl ⟨‹_›, rfl⟩
  · exact .inr ⟨Nat.le_of_not_lt ‹_›, rfl⟩

@[simp] theorem State.forwardJoin_lanes (s : State) (r : ForwardRecord) : (s.forwardJoin r).lanes = s.lanes := by unfold State.forwardJoin; split <;> rfl
@[simp] theorem State.forwardJoin_classifier (s : State) (r : ForwardRecord) : (s.forwardJoin r).classifier = s.classifier := by unfold State.forwardJoin; split <;> rfl
@[simp] theorem State.forwardJoin_copies (s : State) (r : ForwardRecord) : (s.forwardJoin r).copies = s.copies := by unfold State.forwardJoin; split <;> rfl
@[simp] theorem State.forwardJoin_bins (s : State) (r : ForwardRecord) : (s.forwardJoin r).bins = s.bins := by unfold State.forwardJoin; split <;> rfl
@[simp] theorem State.forwardJoin_stores (s : State) (r : ForwardRecord) : (s.forwardJoin r).stores = s.stores := by unfold State.forwardJoin; split <;> rfl
@[simp] theorem State.forwardJoin_visits (s : State) (r : ForwardRecord) : (s.forwardJoin r).visits = s.visits := by unfold State.forwardJoin; split <;> rfl
@[simp] theorem State.forwardJoin_sweep (s : State) (r : ForwardRecord) : (s.forwardJoin r).sweep = s.sweep := by unfold State.forwardJoin; split <;> rfl
@[simp] theorem State.forwardJoin_downlink (s : State) (r : ForwardRecord) : (s.forwardJoin r).downlink = s.downlink := by unfold State.forwardJoin; split <;> rfl
@[simp] theorem State.forwardJoin_notices (s : State) (r : ForwardRecord) : (s.forwardJoin r).notices = s.notices := by unfold State.forwardJoin; split <;> rfl
@[simp] theorem State.forwardJoin_mgmt (s : State) (r : ForwardRecord) : (s.forwardJoin r).mgmt = s.mgmt := by unfold State.forwardJoin; split <;> rfl
@[simp] theorem State.forwardJoin_pending (s : State) (r : ForwardRecord) : (s.forwardJoin r).pending = s.pending := by unfold State.forwardJoin; split <;> rfl
@[simp] theorem State.forwardJoin_responses (s : State) (r : ForwardRecord) : (s.forwardJoin r).egress.responses = s.egress.responses := by unfold State.forwardJoin; split <;> rfl
@[simp] theorem State.forwardJoin_link (s : State) (r : ForwardRecord) : (s.forwardJoin r).egress.link = s.egress.link := by unfold State.forwardJoin; split <;> rfl
@[simp] theorem State.forwardJoin_starvation (s : State) (r : ForwardRecord) : (s.forwardJoin r).egress.starvation = s.egress.starvation := by unfold State.forwardJoin; split <;> rfl
@[simp] theorem State.record_forwardJoin (s : State) (r : ForwardRecord) (i : Slot) : (s.forwardJoin r).record i = s.record i := by simp [State.record]

/-! ### The Bin Directory -/

/-- The way found is one of the identifier's row, valid, and holds it. -/
theorem State.findWay_some {s : State} {id : Word32} {k : Fin 16384} (h : s.findWay id = some k) :
    (∃ w, k = wayIndex id w) ∧ (s.bins.directory[k]).valid = true ∧ (s.bins.directory[k]).identifier = id := by
  unfold State.findWay at h
  have h1 := List.find?_some h
  have h2 := List.mem_of_find?_eq_some h
  simp only [Bool.and_eq_true, beq_iff_eq] at h1
  simp only [List.mem_map] at h2
  obtain ⟨w, -, rfl⟩ := h2
  exact ⟨⟨w, rfl⟩, h1⟩

/-- No way is found exactly when no valid way of the row holds the identifier. -/
theorem State.findWay_none {s : State} {id : Word32} :
    s.findWay id = none ↔ ∀ w, (s.bins.directory[wayIndex id w]).valid = true → (s.bins.directory[wayIndex id w]).identifier ≠ id := by
  unfold State.findWay
  simp only [List.find?_eq_none, List.mem_map, List.mem_finRange, true_and, Bool.and_eq_true, beq_iff_eq, not_and]
  exact ⟨fun h w => h _ ⟨w, rfl⟩, by rintro h _ ⟨w, rfl⟩; exact h w⟩

/-- A lookup that succeeds names the slot of the way found. -/
theorem State.lookup_some {s : State} {id : Word32} {i : Slot} (h : s.lookup id = some i) :
    ∃ k, s.findWay id = some k ∧ (s.bins.directory[k]).slot = i := by
  unfold State.lookup at h
  simpa [Option.map_eq_some_iff] using h

/-- A lookup fails exactly when no way is found. -/
theorem State.lookup_none {s : State} {id : Word32} : s.lookup id = none ↔ s.findWay id = none := by simp [State.lookup]

/-- Lookups read the directory alone. -/
theorem State.lookup_congr {s t : State} (h : t.bins.directory = s.bins.directory) (id : Word32) : t.lookup id = s.lookup id := by
  simp [State.lookup, State.findWay, h]

/-- The free way found is the lowest-numbered one of the row that is not valid. -/
theorem State.freeWay_none {s : State} {id : Word32} :
    s.freeWay id = none ↔ ∀ w, (s.bins.directory[wayIndex id w]).valid = true := by
  unfold State.freeWay
  simp [List.find?_eq_none]

theorem State.freeWay_some {s : State} {id : Word32} {k : Fin 16384} (h : s.freeWay id = some k) :
    (∃ w, k = wayIndex id w) ∧ (s.bins.directory[k]).valid = false := by
  unfold State.freeWay at h
  have h1 := List.find?_some h
  have h2 := List.mem_of_find?_eq_some h
  simp only [List.mem_map] at h2
  obtain ⟨w, -, rfl⟩ := h2
  exact ⟨⟨w, rfl⟩, by simpa using h1⟩

/-- What the search for a FREE slot finds: the lowest one from `k` on. -/
theorem State.freeSlotFrom_some {s : State} {fuel k : Nat} {i : Slot} (h : s.freeSlotFrom fuel k = some i) :
    (s.record i).admin = .free ∧ k ≤ i.val ∧ ∀ j : Slot, k ≤ j.val → j < i → (s.record j).admin ≠ .free := by
  induction fuel generalizing k with
  | zero => cases h
  | succ n ih =>
    unfold State.freeSlotFrom at h
    split at h
    · split at h
      · cases h
        exact ⟨‹_›, Nat.le_refl _, fun j h1 h2 => absurd h2 (by simp only [Fin.lt_def]; omega)⟩
      · rename_i hk hfree
        obtain ⟨h1, h2, h3⟩ := ih h
        refine ⟨h1, by omega, fun j hj hji => ?_⟩
        by_cases hjk : j.val = k
        · have : j = ⟨k, hk⟩ := Fin.ext hjk
          rw [this]; exact hfree
        · exact h3 j (by omega) hji
    · cases h

theorem State.freeSlotFrom_none {s : State} {fuel k : Nat} (h : s.freeSlotFrom fuel k = none) :
    ∀ j : Slot, k ≤ j.val → j.val < k + fuel → (s.record j).admin ≠ .free := by
  induction fuel generalizing k with
  | zero => intro j h1 h2; omega
  | succ n ih =>
    intro j h1 h2
    unfold State.freeSlotFrom at h
    split at h
    · split at h
      · cases h
      · rename_i hk hfree
        by_cases hjk : j.val = k
        · have : j = ⟨k, hk⟩ := Fin.ext hjk
          rw [this]; exact hfree
        · exact ih h j (by omega) (by omega)
    · omega

/-- The FREE slot found is the lowest-numbered (R53). -/
theorem State.freeSlot_some {s : State} {i : Slot} (h : s.freeSlot = some i) :
    (s.record i).admin = .free ∧ ∀ j < i, (s.record j).admin ≠ .free := by
  obtain ⟨h1, -, h3⟩ := State.freeSlotFrom_some h
  exact ⟨h1, fun j => h3 j (Nat.zero_le _)⟩

/-- No FREE slot is found only where no slot is FREE. -/
theorem State.freeSlot_none {s : State} (h : s.freeSlot = none) (j : Slot) : (s.record j).admin ≠ .free :=
  State.freeSlotFrom_none h j (Nat.zero_le _) (by omega)

/-! ### Requests -/

/-- The request taken is the head, of the command's code, with a place for its response. -/
theorem State.requestOf_some {s : State} {code : Byte} {q : Request} :
    s.requestOf code = some q ↔
      s.mgmt.requests.head? = some q ∧ q.code = code ∧ s.egress.responses.length < Config.responseFifoDepth := by
  unfold State.requestOf
  cases h : s.mgmt.requests with
  | nil => simp
  | cons x rest =>
    simp only [List.head?_cons, Option.some.injEq]
    constructor
    · intro e
      split at e
      · cases e; exact ⟨rfl, ‹_›⟩
      · cases e
    · rintro ⟨rfl, e⟩
      rw [if_pos e]

/-- A request of the right length is handed to its owner and answered. -/
theorem serve_of_fits {s : State} {code : Byte} {q : Request} {fits : List Byte → Bool} {own : State → List Byte → Reply}
    (h : s.requestOf code = some q) (hf : fits q.params = true) :
    serve code fits own s = .next ((own s.dropRequest q.params).state.respond q (own s.dropRequest q.params).status
      (own s.dropRequest q.params).results) := by
  simp [serve, h, hf, Reply.place]

/-- A request of a wrong length is answered BAD_LENGTH. -/
theorem serve_of_not_fits {s : State} {code : Byte} {q : Request} {fits : List Byte → Bool} {own : State → List Byte → Reply}
    (h : s.requestOf code = some q) (hf : fits q.params = false) :
    serve code fits own s = .next (s.dropRequest.respond q .badLength []) := by
  simp [serve, h, hf]

/-- Nothing is taken when the head is no such request or the Response FIFO is full. -/
theorem serve_of_none {s : State} {code : Byte} {fits : List Byte → Bool} {own : State → List Byte → Reply}
    (h : s.requestOf code = none) : serve code fits own s = .next s := by
  simp [serve, h]

/-- Everything that taking a request can do. -/
theorem serve_cases {s t : State} {code : Byte} {fits : List Byte → Bool} {own : State → List Byte → Reply}
    (h : serve code fits own s = .next t) :
    (s.requestOf code = none ∧ t = s) ∨
    ∃ q, s.requestOf code = some q ∧
      ((fits q.params = false ∧ t = s.dropRequest.respond q .badLength []) ∨
        (fits q.params = true ∧ t = (own s.dropRequest q.params).place q)) := by
  cases hq : s.requestOf code with
  | none => rw [serve_of_none hq] at h; cases h; exact .inl ⟨rfl, rfl⟩
  | some q =>
    refine .inr ⟨q, rfl, ?_⟩
    cases hf : fits q.params with
    | false => rw [serve_of_not_fits hq hf] at h; cases h; exact .inl ⟨rfl, rfl⟩
    | true => rw [serve_of_fits hq hf] at h; cases h; exact .inr ⟨rfl, rfl⟩

/-- The bin that a key names is provisioned, or named by the directory (R50, R54). -/
theorem State.resolve_some {s : State} {key : BinKey} {i : Slot} (h : s.resolve key = some i) :
    (∃ id, key = .byIdentifier id ∧ s.lookup id = some i) ∨ (key = .bySlot i ∧ (s.record i).admin ≠ .free) := by
  cases key with
  | byIdentifier id => exact .inl ⟨id, rfl, h⟩
  | bySlot j =>
    by_cases hf : (s.record j).admin = .free
    · simp [State.resolve, hf] at h
    · simp only [State.resolve, hf, if_false, Option.some.injEq] at h
      subst h
      exact .inr ⟨rfl, hf⟩

end Sys2Proof.Machine
end

