-- ==== Sys2Proof/Laws/Take.lean ====
section
/-! SUPPORT. What a take can do, said once: which lane it serves, what becomes of the frame, and what the Copy Merger and the Bin Processor make of the Sample. -/

namespace Sys2Proof.Machine

open Sys2Proof.Safety

/-! ### The lane served (R19) -/

/-- The lane served is the first in turn with a frame. -/
theorem State.laneToServe_eq (s : State) (n : Lane) (h₁ : ∀ m : Lane, m < n → (s.lanes[s.classifier.pointer + 1 + m]).fifo = [])
    (h₂ : (s.lanes[s.classifier.pointer + 1 + n]).fifo ≠ []) : s.laneToServe = some (s.classifier.pointer + 1 + n) := by
  have order : laneOrder s.classifier.pointer = [0, 1, 2, 3].map fun m : Lane => s.classifier.pointer + 1 + m := by
    simp only [laneOrder]; generalize s.classifier.pointer = p; revert p; decide
  simp only [State.laneToServe, order]
  have skip (m : Lane) (h : m < n) : (!(s.lanes[s.classifier.pointer + 1 + m]).fifo.isEmpty) = false := by rw [h₁ m h]; rfl
  have last : (!(s.lanes[s.classifier.pointer + 1 + n]).fifo.isEmpty) = true := by
    rw [Bool.not_eq_true', List.isEmpty_eq_false_iff]; exact h₂
  have cases4 : n = 0 ∨ n = 1 ∨ n = 2 ∨ n = 3 := by clear h₁ h₂ skip last; revert n; decide
  rcases cases4 with rfl | rfl | rfl | rfl
  · simp only [List.map_cons, List.find?_cons, last]
  · simp only [List.map_cons, List.find?_cons, last, skip 0 (by decide)]
  · simp only [List.map_cons, List.find?_cons, last, skip 0 (by decide), skip 1 (by decide)]
  · simp only [List.map_cons, List.find?_cons, last, skip 0 (by decide), skip 1 (by decide), skip 2 (by decide)]

/-- With every FIFO empty the classifier waits. -/
theorem execTake_of_none {s : State} (h : s.laneToServe = none) : execTake s = .next s := by simp [execTake, h]

/-- A take removes the head frame, sets the pointer, and classifies the frame. -/
theorem execTake_of_takes {s : State} {l : Lane} {f : LaneFrame} (h : Takes s l f) : execTake s = .next ((taken s l).classify l f) := by
  obtain ⟨h₁, h₂⟩ := h
  simp only [execTake, h₁]
  cases hf : (s.lanes[l]).fifo with
  | nil => rw [hf] at h₂; cases h₂
  | cons a rest => rw [hf] at h₂; cases h₂; rfl

/-! ### What becomes of the frame (R20 to R31) -/

/-- In STANDBY the frame is forwarded unmarked (R20). -/
theorem State.classify_standby {s : State} {l : Lane} {f : LaneFrame} (h : s.mgmt.running = false) :
    (taken s l).classify l f = (taken s l).forwardJoin (recordOf l f .none) := by
  unfold State.classify
  rw [if_neg (show ¬(taken s l).mgmt.running = true by simp [taken, h])]
  rfl

/-- In RUNNING a frame that matches no chain meets the default action (R26). -/
theorem State.classify_unmatched {s : State} {l : Lane} {f : LaneFrame} (h : s.mgmt.running = true)
    (hm : s.classifier.matchingFilter f.bytes = none) : (taken s l).classify l f = (taken s l).unmatchedFrame l f := by
  unfold State.classify
  rw [if_pos (show (taken s l).mgmt.running = true from h), show (taken s l).classifier.matchingFilter f.bytes = none from hm]

/-- In RUNNING a matched frame is counted at its filter and meets its filter's action (R25, R27, R28). -/
theorem State.classify_matched {s : State} {l : Lane} {f : LaneFrame} {h : Index16} (hr : s.mgmt.running = true)
    (hm : s.classifier.matchingFilter f.bytes = some h) : (taken s l).classify l f =
      match (s.classifier.filters[h]).action with
      | .forward => (takenAt s l h).forwardJoin (recordOf l f .none)
      | .discard => takenAt s l h
      | .binReport => (takenAt s l h).binReport l f h s.classifier.layouts[(s.classifier.filters[h]).layout] false
      | .binReportAndForward => (takenAt s l h).binReport l f h s.classifier.layouts[(s.classifier.filters[h]).layout] true := by
  unfold State.classify
  rw [if_pos (show (taken s l).mgmt.running = true from hr), show (taken s l).classifier.matchingFilter f.bytes = some h from hm]
  rfl

/-- A bin report whose decode check passes hands the Sample to the Copy Merger, the forwarded record before it (R28). -/
theorem State.binReport_of_decodes {s : State} {l : Lane} {f : LaneFrame} {h : Index16} {y : Layout} {andForward : Bool}
    (hd : y.decodes f.bytes = true) : s.binReport l f h y andForward =
      (if andForward then s.forwardJoin (recordOf l f .none) else s).mergeSample (y.sample l f h) := by
  simp only [State.binReport, hd, if_true]; rfl

/-- One whose decode check fails is counted and forwarded marked where action or policy asks (R30, R31). -/
theorem State.binReport_of_not_decodes {s : State} {l : Lane} {f : LaneFrame} {h : Index16} {y : Layout} {andForward : Bool}
    (hd : y.decodes f.bytes = false) : s.binReport l f h y andForward = s.lengthFailure l f andForward := by
  simp [State.binReport, hd]

/-- The decode check in the manual's words (R30). -/
theorem Layout.decodes_iff (y : Layout) (bytes : List Byte) :
    y.decodes bytes = true ↔ y.minLength ≤ bytes.length ∧ y.identifierOf bytes ≠ 0 ∧ y.identifierOf bytes ≠ 0xFFFFFFFF := by
  simp [Layout.decodes, validIdentifier]

/-- A frame reported, forwarded or not, touches the lane, the pointer, the Forward FIFO and counters. -/
@[simp] theorem reported_copies (s : State) (l : Lane) (f : LaneFrame) (h : Index16) : (reported s l f h).copies = s.copies := by
  unfold reported; split <;> simp [takenAt, taken]
@[simp] theorem reported_mgmt (s : State) (l : Lane) (f : LaneFrame) (h : Index16) : (reported s l f h).mgmt = s.mgmt := by
  unfold reported; split <;> simp [takenAt, taken]
@[simp] theorem reported_bins (s : State) (l : Lane) (f : LaneFrame) (h : Index16) : (reported s l f h).bins = s.bins := by
  unfold reported; split <;> simp [takenAt, taken]
@[simp] theorem reported_stores (s : State) (l : Lane) (f : LaneFrame) (h : Index16) : (reported s l f h).stores = s.stores := by
  unfold reported; split <;> simp [takenAt, taken]
@[simp] theorem reported_notices (s : State) (l : Lane) (f : LaneFrame) (h : Index16) : (reported s l f h).notices = s.notices := by
  unfold reported; split <;> simp [takenAt, taken]
@[simp] theorem reported_sweep (s : State) (l : Lane) (f : LaneFrame) (h : Index16) : (reported s l f h).sweep = s.sweep := by
  unfold reported; split <;> simp [takenAt, taken]

/-- A take that yields a Sample hands it to the Copy Merger. -/
theorem execTake_of_reports {s : State} {l : Lane} {f : LaneFrame} {h : Index16} {x : Sample} (hr : Reports s l f h x) :
    execTake s = .next ((reported s l f h).mergeSample x) := by
  obtain ⟨ht, hrun, hm, ha, hd, rfl⟩ := hr
  rw [execTake_of_takes ht, State.classify_matched hrun hm, reported]
  rcases ha with ha | ha <;> simp only [ha] <;> rw [State.binReport_of_decodes hd] <;> simp

/-! ### The Copy Merger (R37 to R42) -/

/-- Whether the set holds the Sample's entry. -/
theorem copies_any_iff (q : List CopyEntry) (id : Word32) (n : Word16) :
    q.any (fun e => e.isOf id n) = true ↔ ∃ e ∈ q, e.identifier = id ∧ e.sequence = n := by
  simp [CopyEntry.isOf]

/-- A later copy is counted, and its merge note goes to the record (R41, R42). -/
theorem State.mergeSample_later {s : State} {x : Sample} (h : ∃ e ∈ s.copies, e.identifier = x.identifier ∧ e.sequence = x.sequence) :
    s.mergeSample x = (s.modCounters fun c => { c with copiesMerged := inc32 c.copiesMerged }).mergeNote x := by
  unfold State.mergeSample
  rw [if_pos ((copies_any_iff _ _ _).2 h)]

/-- A first copy makes its entry, at a full set in the place of the first, and goes to the Bin Processor (R38 to R40). -/
theorem State.mergeSample_first {s : State} {x : Sample} (h : ∀ e ∈ s.copies, ¬(e.identifier = x.identifier ∧ e.sequence = x.sequence)) :
    s.mergeSample x =
      ({ s.evictIfFull with copies := placeCopy (s.evictIfFull.copyEntry x) s.evictIfFull.copies } : State).workSample x := by
  unfold State.mergeSample
  rw [if_neg]
  intro hc
  obtain ⟨e, he, h'⟩ := (copies_any_iff _ _ _).1 hc
  exact h e he h'

/-- A first copy with a free place reaches the Bin Processor with its entry made (R39). -/
theorem execTake_of_reportsFirst {s : State} {l : Lane} {f : LaneFrame} {h : Index16} {x : Sample} (hr : ReportsFirst s l f h x) :
    execTake s = .next ((firstCopy s l f h x).workSample x) := by
  obtain ⟨hr, hc, hl⟩ := hr
  rw [execTake_of_reports hr, State.mergeSample_first (by rw [reported_copies]; exact hc)]
  have : (reported s l f h).evictIfFull = reported s l f h := by
    unfold State.evictIfFull
    rw [if_neg (by rw [reported_copies]; exact Nat.not_le_of_lt hl)]
  rw [this, State.copyEntry, reported_mgmt, reported_copies]; rfl

/-- An entry placed is among the entries, and they stay. -/
theorem placeCopy_perm (e : CopyEntry) (q : List CopyEntry) : (placeCopy e q).Perm (e :: q) := by
  induction q with
  | nil => exact List.Perm.refl _
  | cons x rest ih =>
    unfold placeCopy
    split
    · exact List.Perm.refl _
    · exact (ih.cons x).trans (List.Perm.swap e x rest)

/-! ### The Bin Processor -/

/-- A Sample of an unknown identifier goes to the Discovery List, one of a provisioned bin to its record (R59). -/
theorem State.workSample_none {s : State} {x : Sample} (h : s.lookup x.identifier = none) : s.workSample x = s.discover x := by
  simp [State.workSample, h]

theorem State.workSample_some {s : State} {x : Sample} {i : Slot} (h : s.lookup x.identifier = some i) :
    s.workSample x = s.workSlot i x := by
  simp [State.workSample, h]

/-- The sequence check (R66). -/
theorem sequenceCheck_some (n : Word16) (x : Sample) :
    sequenceCheck (some n) x =
      if (x.sequence - n).toNat = 0 then .repeated
      else if (x.sequence - n).toNat ≤ 32767 then .forward (x.sequence - n).toNat
      else if x.restart = some true then .restart n
      else .stale := rfl

end Sys2Proof.Machine
end

