-- ==== Sys2Proof/Laws/Samples.lean ====
section
/-! SUPPORT. The frame of the work at a Bin Record: what none of its stages touches, said once for each of them. -/

namespace Sys2Proof.Machine

/-! ### The frame -/

/-- From `s` to `t` nothing has moved but records, the Visit List, the Downlink Request Queue, notices and counters. -/
structure WorkFrame (s t : State) : Prop where
  lanes : t.lanes = s.lanes
  classifier : t.classifier = s.classifier
  copies : t.copies = s.copies
  directory : t.bins.directory = s.bins.directory
  discovery : t.bins.discovery = s.bins.discovery
  stores : t.stores = s.stores
  sweep : t.sweep = s.sweep
  frames : t.downlink.frames = s.downlink.frames
  tx : t.downlink.tx = s.downlink.tx
  egress : t.egress = s.egress
  mgmt : t.mgmt = s.mgmt
  pending : t.pending = s.pending

theorem WorkFrame.refl (s : State) : WorkFrame s s := ⟨rfl, rfl, rfl, rfl, rfl, rfl, rfl, rfl, rfl, rfl, rfl, rfl⟩

theorem WorkFrame.trans {s t u : State} (a : WorkFrame s t) (b : WorkFrame t u) : WorkFrame s u :=
  ⟨b.lanes.trans a.lanes, b.classifier.trans a.classifier, b.copies.trans a.copies, b.directory.trans a.directory,
    b.discovery.trans a.discovery, b.stores.trans a.stores, b.sweep.trans a.sweep, b.frames.trans a.frames, b.tx.trans a.tx,
    b.egress.trans a.egress, b.mgmt.trans a.mgmt, b.pending.trans a.pending⟩

/-! ### Shared updates -/

theorem State.setRecord_frame (s : State) (i : Slot) (r : BinRecord) : WorkFrame s (s.setRecord i r) :=
  ⟨rfl, rfl, rfl, rfl, rfl, rfl, rfl, rfl, rfl, rfl, rfl, rfl⟩

theorem State.modRecord_frame (s : State) (i : Slot) (f : BinRecord → BinRecord) : WorkFrame s (s.modRecord i f) := s.setRecord_frame i _

theorem State.modCounters_frame (s : State) (f : Counters → Counters) : WorkFrame s (s.modCounters f) :=
  ⟨rfl, rfl, rfl, rfl, rfl, rfl, rfl, rfl, rfl, rfl, rfl, rfl⟩

theorem State.visits_frame (s : State) (v : VisitList) : WorkFrame s { s with visits := v } :=
  ⟨rfl, rfl, rfl, rfl, rfl, rfl, rfl, rfl, rfl, rfl, rfl, rfl⟩

theorem State.queue_frame (s : State) (q : List ReEntry) : WorkFrame s { s with downlink := { s.downlink with queue := q } } :=
  ⟨rfl, rfl, rfl, rfl, rfl, rfl, rfl, rfl, rfl, rfl, rfl, rfl⟩

theorem State.notify_frame (s : State) (n : Notice) : WorkFrame s (s.notify n) := by
  constructor <;> simp

theorem State.notifySlot_frame (s : State) (i : Slot) (b : NoticeBody) : WorkFrame s (s.notifySlot i b) := s.notify_frame _

theorem State.setPending_frame (s : State) (i : Slot) (b : Bool) : WorkFrame s (s.setPending i b) := s.modRecord_frame i _

/-- A choice between two ways keeps the frame when both do. -/
theorem WorkFrame.ite {p : Prop} [Decidable p] {s t u : State} (a : WorkFrame s t) (b : WorkFrame s u) :
    WorkFrame s (if p then t else u) := by
  split
  · exact a
  · exact b

/-! ### The Visit List -/

theorem State.moveForward_frame (s : State) (l : List Slot) :
    WorkFrame s (l.foldl (fun s j => s.modRecord j BinRecord.moveForward) s) := by
  induction l generalizing s with
  | nil => exact .refl s
  | cons j l ih => exact (s.modRecord_frame j _).trans (ih _)

theorem State.removeFromBucket_frame (s : State) (i : Slot) (b : Band) (k : Bucket) : WorkFrame s (s.removeFromBucket i b k) :=
  (s.visits_frame _).trans (State.moveForward_frame _ _)

theorem State.appendToBucket_frame (s : State) (i : Slot) (b : Band) (k : Bucket) : WorkFrame s (s.appendToBucket i b k) := by
  unfold State.appendToBucket
  exact (s.visits_frame _).trans (State.modRecord_frame _ i _)

theorem State.joinList_frame (s : State) (i : Slot) (b : Band) (k : Bucket) : WorkFrame s (s.joinList i b k) :=
  (s.appendToBucket_frame i b k).trans (State.visits_frame _ _)

theorem State.leaveList_frame (s : State) (i : Slot) (b : Band) : WorkFrame s (s.leaveList i b) := by
  unfold State.leaveList
  split
  · exact .refl s
  · exact ((s.removeFromBucket_frame i b _).trans (State.modRecord_frame _ i _)).trans (State.visits_frame _ _)

theorem State.moveList_frame (s : State) (i : Slot) (b : Band) (k : Bucket) (c : Band) (m : Bucket) :
    WorkFrame s (s.moveList i b k c m) :=
  ((s.removeFromBucket_frame i b k).trans (State.appendToBucket_frame _ i c m)).trans (State.visits_frame _ _)

theorem State.reconcile_frame (s : State) (i : Slot) (b : Band) (e : Nat) : WorkFrame s (s.reconcile i b e) := by
  unfold State.reconcile
  split
  · exact .ite (.refl s) (s.joinList_frame ..)
  · exact .ite (s.leaveList_frame ..) (.ite (.refl s) (s.moveList_frame ..))

theorem State.changeBand_frame (s : State) (i : Slot) (b : Band) (e : Nat) : WorkFrame s (s.changeBand i b e) :=
  .ite (.refl s) ((s.modRecord_frame i _).trans (State.notifySlot_frame _ i _))

theorem State.confirm_frame (s : State) (i : Slot) (e : Nat) : WorkFrame s (s.confirm i e) :=
  ((s.modRecord_frame i _).trans (State.changeBand_frame _ i _ e)).trans (State.reconcile_frame _ i _ e)

/-! ### Liveness and re-measures -/

theorem State.arrival_frame (s : State) (i : Slot) (c : Bool) : WorkFrame s (s.arrival i c) :=
  .ite ((s.modRecord_frame i _).trans (State.notifySlot_frame _ i _)) (s.modRecord_frame i _)

theorem State.visit_frame (s : State) (i : Slot) : WorkFrame s (s.visit i) :=
  .ite ((s.modRecord_frame i _).trans (State.notifySlot_frame _ i _)) (s.modRecord_frame i _)

theorem State.requestReMeasure_frame (s : State) (i : Slot) : WorkFrame s (s.requestReMeasure i) :=
  .ite (s.setPending_frame i false) (.ite ((s.modCounters_frame _).trans (State.setPending_frame _ i true))
    ((s.queue_frame _).trans (State.setPending_frame _ i false)))

theorem State.declareSuspect_frame (s : State) (i : Slot) (c : Trigger) : WorkFrame s (s.declareSuspect i c) :=
  .ite ((s.modRecord_frame i _).trans (State.notifySlot_frame _ i _)) (s.modRecord_frame i _)

theorem State.unusableReading_frame (s : State) (i : Slot) (c : Option Trigger) : WorkFrame s (s.unusableReading i c) :=
  .ite (.refl s) (.ite (.refl s) (.ite (s.declareSuspect_frame i _) (s.requestReMeasure_frame i)))

theorem State.restore_frame (s : State) (i : Slot) : WorkFrame s (s.restore i) :=
  .ite ((s.modRecord_frame i _).trans (State.notifySlot_frame _ i _)) (s.modRecord_frame i _)

/-! ### The stages of a Sample -/

theorem State.estimate_frame (s : State) (i : Slot) : WorkFrame s (s.estimate i) := by
  unfold State.estimate
  exact .ite ((s.modRecord_frame i _).trans (State.modCounters_frame _ _)) (s.modRecord_frame i _)

theorem State.applied_frame (s : State) (i : Slot) : WorkFrame s (s.applied i) := by
  unfold State.applied
  exact ((s.estimate_frame i).trans (State.confirm_frame _ i _)).trans (State.restore_frame _ i)

theorem State.collect_frame (s : State) (i : Slot) (fill : Nat) : WorkFrame s (s.collect i fill) := by
  unfold State.collect
  exact (((s.notifySlot_frame i _).trans (State.leaveList_frame _ i _)).trans (State.modRecord_frame _ i _)).trans (State.modCounters_frame _ _)

theorem State.storeFill_frame (s : State) (i : Slot) (fill : Nat) : WorkFrame s (s.storeFill i fill) := by
  unfold State.storeFill
  exact s.modRecord_frame i _

theorem State.rejectRise_frame (s : State) (i : Slot) : WorkFrame s (s.rejectRise i) := by
  unfold State.rejectRise
  exact ((s.modRecord_frame i _).trans (State.modCounters_frame _ _)).trans (State.unusableReading_frame _ i _)

theorem State.workFill_frame (s : State) (i : Slot) (d : Nat) (l : Liveness) : WorkFrame s (s.workFill i d l) := by
  unfold State.workFill
  exact .ite ((s.collect_frame i _).trans (State.applied_frame _ i))
    (.ite (s.rejectRise_frame i) ((s.storeFill_frame i _).trans (State.applied_frame _ i)))

theorem State.lidLatch_frame (s : State) (i : Slot) (x : Sample) : WorkFrame s (s.lidLatch i x) := by
  unfold State.lidLatch
  split
  · exact .refl s
  · exact (s.modRecord_frame i _).trans (State.notifySlot_frame _ i _)

theorem State.tiltLatch_frame (s : State) (i : Slot) (x : Sample) : WorkFrame s (s.tiltLatch i x) := by
  unfold State.tiltLatch
  split
  · exact .refl s
  · exact (s.modRecord_frame i _).trans (State.notifySlot_frame _ i _)

theorem State.shatterEvent_frame (s : State) (i : Slot) (x : Sample) : WorkFrame s (s.shatterEvent i x) :=
  .ite (s.notifySlot_frame i _) (.refl s)

theorem State.heatLatch_frame (s : State) (i : Slot) (x : Sample) : WorkFrame s (s.heatLatch i x) := by
  unfold State.heatLatch
  split
  · exact .refl s
  · exact (s.modRecord_frame i _).trans (State.notifySlot_frame _ i _)

theorem State.heard_frame (s : State) (i : Slot) (x : Sample) : WorkFrame s (s.heard i x) :=
  ((((s.modRecord_frame i _).trans (State.lidLatch_frame _ i x)).trans (State.tiltLatch_frame _ i x)).trans
    (State.shatterEvent_frame _ i x)).trans (State.heatLatch_frame _ i x)

theorem State.workAccepted_frame (s : State) (i : Slot) (x : Sample) (c : Bool) : WorkFrame s (s.workAccepted i x c) := by
  unfold State.workAccepted
  extract_lets c' distance fails tilted marked s'
  have h : WorkFrame s s' := .ite ((s.modRecord_frame i _).trans (State.modCounters_frame _ _)) (.refl s)
  have g : WorkFrame s ((s'.heard i x).arrival i c) := (h.trans (State.heard_frame _ i x)).trans (State.arrival_frame _ i c)
  split
  · exact h
  · exact .ite (g.trans (State.unusableReading_frame _ i _)) (g.trans (State.workFill_frame _ i _ _))

theorem State.accept_frame (s : State) (i : Slot) (x : Sample) (n : Nat) : WorkFrame s (s.accept i x n) := s.modRecord_frame i _

theorem State.sensorRestart_frame (s : State) (i : Slot) (n : Word16) (x : Sample) : WorkFrame s (s.sensorRestart i n x) :=
  (s.modCounters_frame _).trans (State.notifySlot_frame _ i _)

theorem State.workSequence_frame (s : State) (i : Slot) (x : Sample) : WorkFrame s (s.workSequence i x) := by
  unfold State.workSequence
  split
  · exact (s.modRecord_frame i _).trans (State.modCounters_frame _ _)
  · exact (s.modRecord_frame i _).trans (State.modCounters_frame _ _)
  · exact (s.accept_frame i x _).trans (State.workAccepted_frame _ i x _)
  · exact (s.accept_frame i x _).trans (State.workAccepted_frame _ i x _)
  · exact ((s.sensorRestart_frame i _ x).trans (State.accept_frame _ i x _)).trans (State.workAccepted_frame _ i x _)

theorem State.profileMatch_frame (s : State) (i : Slot) (x : Sample) : WorkFrame s (s.profileMatch i x) :=
  .ite (s.modRecord_frame i _) (.ite ((s.modRecord_frame i _).trans (State.notifySlot_frame _ i _)) (s.modRecord_frame i _))

theorem State.profileMismatch_frame (s : State) (i : Slot) (x : Sample) : WorkFrame s (s.profileMismatch i x) :=
  have h := (s.modRecord_frame i _).trans (State.modCounters_frame _ _)
  .ite (h.trans (State.notifySlot_frame _ i _)) h

/-- The whole work of a Sample at a provisioned slot keeps the frame. -/
theorem State.workSlot_frame (s : State) (i : Slot) (x : Sample) : WorkFrame s (s.workSlot i x) :=
  .ite ((s.modRecord_frame i _).trans
      (.ite ((State.profileMatch_frame _ i x).trans (State.workSequence_frame _ i x)) (State.profileMismatch_frame _ i x)))
    (s.modRecord_frame i _)

/-- A merge note keeps the frame. -/
theorem State.mergeNote_frame (s : State) (x : Sample) : WorkFrame s (s.mergeNote x) := by
  unfold State.mergeNote
  split
  · exact .refl s
  · exact s.modRecord_frame _ _

end Sys2Proof.Machine
end

