-- ==== Sys2Proof/Laws/Downlink.lean ====
section
/-! SUPPORT. The Downlink Request Queue and the transmit arbiter: where entries stand, which entry is chosen, and what STOP leaves. -/

namespace Sys2Proof.Machine

/-! ### Entries -/

/-- An entry placed is among the entries, and they stay. -/
theorem placeEntry_perm (e : ReEntry) (q : List ReEntry) : (placeEntry e q).Perm (e :: q) := by
  induction q with
  | nil => exact List.Perm.refl _
  | cons x rest ih =>
    unfold placeEntry
    split
    · exact List.Perm.refl _
    · exact (ih.cons x).trans (List.Perm.swap e x rest)

theorem mem_placeEntry (e x : ReEntry) (q : List ReEntry) : x ∈ placeEntry e q ↔ x = e ∨ x ∈ q := by
  rw [(placeEntry_perm e q).mem_iff, List.mem_cons]

theorem placeEntry_length (e : ReEntry) (q : List ReEntry) : (placeEntry e q).length = q.length + 1 := by
  rw [(placeEntry_perm e q).length_eq, List.length_cons]

/-- The queue holds an entry of the slot exactly when one of its entries names it. -/
theorem Downlink.holds_iff (d : Downlink) (i : Slot) : d.holds i = true ↔ ∃ e ∈ d.queue, e.slot = i := by simp [Downlink.holds]

/-- The slot's entry, where the queue holds one entry per slot. -/
theorem Downlink.entry_of_split {d : Downlink} {q₁ q₂ : List ReEntry} {e : ReEntry} (hq : d.queue = q₁ ++ e :: q₂)
    (h : (d.queue.map ReEntry.slot).Nodup) : d.entry e.slot = some e ∧ d.removeEntry e.slot = { d with queue := q₁ ++ q₂ } := by
  rw [hq, List.map_append, List.map_cons, List.nodup_append, List.nodup_cons] at h
  obtain ⟨-, h₂, h₃⟩ := h
  have n₁ : ∀ a ∈ q₁, a.slot ≠ e.slot := fun a ha => h₃ _ (List.mem_map_of_mem ha) _ List.mem_cons_self
  have n₂ : ∀ a ∈ q₂, a.slot ≠ e.slot := fun a ha hs => h₂.1 (hs ▸ List.mem_map_of_mem ha)
  constructor
  · simp only [Downlink.entry, hq, List.find?_append, List.find?_cons]
    rw [List.find?_eq_none.2 (fun a ha => by simpa using n₁ a ha)]
    simp
  · simp only [Downlink.removeEntry, hq, List.filter_append, List.filter_cons]
    rw [if_neg (by simp), List.filter_eq_self.2 (fun a ha => by simpa using n₁ a ha),
      List.filter_eq_self.2 (fun a ha => by simpa using n₂ a ha)]

/-- What making an entry due does, where the queue holds one entry per slot. -/
theorem Downlink.modEntry_of_split {d : Downlink} {q₁ q₂ : List ReEntry} {e : ReEntry} (f : ReEntry → ReEntry)
    (hq : d.queue = q₁ ++ e :: q₂) (h : (d.queue.map ReEntry.slot).Nodup) :
    d.modEntry e.slot f = { d with queue := q₁ ++ f e :: q₂ } := by
  rw [hq, List.map_append, List.map_cons, List.nodup_append, List.nodup_cons] at h
  obtain ⟨-, h₂, h₃⟩ := h
  have n₁ : ∀ a ∈ q₁, a.slot ≠ e.slot := fun a ha => h₃ _ (List.mem_map_of_mem ha) _ List.mem_cons_self
  have n₂ : ∀ a ∈ q₂, a.slot ≠ e.slot := fun a ha hs => h₂.1 (hs ▸ List.mem_map_of_mem ha)
  simp only [Downlink.modEntry, hq, List.map_append, List.map_cons, if_true]
  rw [List.map_congr_left (g := id) (fun a ha => by simp [n₁ a ha]), List.map_congr_left (l := q₂) (g := id) (fun a ha => by simp [n₂ a ha])]
  simp

/-! ### A request (R134) -/

/-- Everything that a request can do: the entry stands already, the queue is full, or the entry joins. -/
theorem State.requestReMeasure_cases (s : State) (i : Slot) :
    ((∃ e ∈ s.downlink.queue, e.slot = i) ∧ s.requestReMeasure i = s.setPending i false) ∨
    ((∀ e ∈ s.downlink.queue, e.slot ≠ i) ∧ Config.requestQueueSize ≤ s.downlink.queue.length ∧
      s.requestReMeasure i = (s.modCounters fun c => { c with dropped := inc32 c.dropped }).setPending i true) ∨
    ((∀ e ∈ s.downlink.queue, e.slot ≠ i) ∧ s.downlink.queue.length < Config.requestQueueSize ∧
      s.requestReMeasure i =
        ({ s with downlink := { s.downlink with queue := placeEntry (s.newEntry i) s.downlink.queue } } : State).setPending i false) := by
  unfold State.requestReMeasure
  by_cases h : s.downlink.holds i = true
  · exact .inl ⟨(s.downlink.holds_iff i).1 h, if_pos h⟩
  · have hn : ∀ e ∈ s.downlink.queue, e.slot ≠ i := fun e he hs => h ((s.downlink.holds_iff i).2 ⟨e, he, hs⟩)
    rw [if_neg h]
    by_cases hf : Config.requestQueueSize ≤ s.downlink.queue.length
    · exact .inr (.inl ⟨hn, hf, if_pos hf⟩)
    · exact .inr (.inr ⟨hn, Nat.lt_of_not_le hf, if_neg hf⟩)

/-! ### The arbiter's choice (R138) -/

theorem ReEntry.candidate_iff (e : ReEntry) (now : Word32) :
    e.candidate now = true ↔ e.state = .due ∧ 2147483648 ≤ (now - e.closes).toNat := by
  simp only [ReEntry.candidate, Bool.and_eq_true, beq_iff_eq, before_iff]

/-- The entry chosen is a candidate of the queue. -/
theorem earliestClose_mem {now : Word32} {q : List ReEntry} {e : ReEntry} (h : earliestClose now q = some e) :
    e ∈ q ∧ e.candidate now = true := by
  induction q generalizing e with
  | nil => cases h
  | cons x rest ih =>
    unfold earliestClose at h
    cases hr : earliestClose now rest with
    | none =>
      rw [hr] at h
      by_cases hx : x.candidate now = true
      · simp only [hx, if_true, Option.some.injEq] at h; subst h; exact ⟨List.mem_cons_self, hx⟩
      · simp only [hx] at h; cases h
    | some b =>
      rw [hr] at h
      obtain ⟨h₁, h₂⟩ := ih hr
      by_cases hx : x.candidate now = true ∧ atOrAfter b.closes x.closes = true
      · simp only [hx, and_self, if_true, Option.some.injEq] at h; subst h; exact ⟨List.mem_cons_self, hx.1⟩
      · simp only [hx, if_false, Option.some.injEq] at h; subst h; exact ⟨List.mem_cons_of_mem _ h₁, h₂⟩

/-- None is chosen exactly when none is a candidate. -/
theorem earliestClose_none {now : Word32} {q : List ReEntry} : earliestClose now q = none ↔ ∀ e ∈ q, ¬e.candidate now = true := by
  induction q with
  | nil => simp [earliestClose]
  | cons x rest ih =>
    unfold earliestClose
    cases hr : earliestClose now rest with
    | none =>
      have := ih.1 hr
      by_cases hx : x.candidate now = true
      · simp [hx]
      · simp only [hx, List.mem_cons, forall_eq_or_imp]; simpa using this
    | some b =>
      obtain ⟨h₁, h₂⟩ := earliestClose_mem hr
      constructor
      · intro h; simp only at h; split at h <;> cases h
      · intro h; exact absurd h₂ (h b (List.mem_cons_of_mem _ h₁))

/-! ### STOP's emptying of the queue (R145) -/

/-- The pending flags set over a list of entries touch records alone. -/
theorem State.setPending_foldl (s : State) (q : List ReEntry) :
    q.foldl (fun s e => s.setPending e.slot true) s =
      { s with bins := { s.bins with records := (q.foldl (fun s e => s.setPending e.slot true) s).bins.records } } := by
  induction q generalizing s with
  | nil => rfl
  | cons e q ih => rw [List.foldl_cons, ih]; rfl

/-- The pending flag is set at the slots of the entries, and no other record changes. -/
theorem State.record_setPending_foldl (s : State) (q : List ReEntry) (i : Slot) :
    ((∃ e ∈ q, e.slot = i) → (q.foldl (fun s e => s.setPending e.slot true) s).record i = { s.record i with pendingFlag := true }) ∧
    ((∀ e ∈ q, e.slot ≠ i) → (q.foldl (fun s e => s.setPending e.slot true) s).record i = s.record i) := by
  induction q generalizing s with
  | nil => exact ⟨fun h => absurd h (by simp), fun _ => rfl⟩
  | cons e q ih =>
    rw [List.foldl_cons]
    obtain ⟨h₁, h₂⟩ := ih (s.setPending e.slot true)
    refine ⟨fun h => ?_, fun h => ?_⟩
    · by_cases hq : ∃ x ∈ q, x.slot = i
      · rw [h₁ hq, State.setPending, State.record_modRecord]
        by_cases he : e.slot = i
        · rw [if_pos he, he]
        · rw [if_neg he]
      · have he : e.slot = i := by
          obtain ⟨x, hx, hs⟩ := h
          rcases List.mem_cons.1 hx with rfl | hx
          · exact hs
          · exact absurd ⟨x, hx, hs⟩ hq
        rw [h₂ (fun x hx hs => hq ⟨x, hx, hs⟩), State.setPending, State.record_modRecord, if_pos he, he]
    · rw [h₂ (fun x hx => h x (List.mem_cons_of_mem _ hx)), State.setPending,
        State.record_modRecord_ne _ _ (h e List.mem_cons_self)]

end Sys2Proof.Machine
end

