-- ==== Sys2Proof/Laws/Fill.lean ====
section
/-! SUPPORT. The fill computation: the ranges that its small functions keep. -/

namespace Sys2Proof.Machine

/-- The median of three lies among them. -/
theorem median3_le {a b c n : Nat} (ha : a ≤ n) (hb : b ≤ n) (hc : c ≤ n) : median3 a b c ≤ n := by
  unfold median3; omega

/-- The value stored is the fill or a median of it with stored values. -/
theorem valueToStore_le {c : ClassDesc} {r : Ring} {fill n : Nat} (hf : fill ≤ n) (hr : ∀ k, r.cell k ≤ n) : valueToStore c r fill ≤ n := by
  unfold valueToStore
  split
  · exact median3_le hf (hr 0) (hr 1)
  · exact hf

/-- A clamped estimate lies in 0 to 1000 (R91). -/
theorem clampEstimate_le (e : Int) : clampEstimate e ≤ 1000 := by
  unfold clampEstimate; omega

/-- A cell is one of the sixteen. -/
theorem Ring.cell_le {r : Ring} {n : Nat} (h : ∀ k : Index16, r.cells[k] ≤ n) (k : Nat) : r.cell k ≤ n := h _

/-- The sum of bounded values. -/
theorem Ring.stored_sum_le {r : Ring} {n : Nat} (h : ∀ k : Index16, r.cells[k] ≤ n) : r.stored.sum ≤ r.occupancy * n := by
  have := List.sum_le_card_nsmul r.stored n (by
    intro x hx
    simp only [Ring.stored, List.mem_map] at hx
    obtain ⟨k, -, rfl⟩ := hx
    exact r.cell_le h k)
  simpa [Ring.stored] using this

/-- A settling mean of values in range lies in range (R89). -/
theorem settlingMean_le {r : Ring} {n : Nat} (h : ∀ k : Index16, r.cells[k] ≤ n) (hr : 1 ≤ r.occupancy) : settlingMean r ≤ n := by
  unfold settlingMean
  have hs := r.stored_sum_le h
  apply Nat.le_of_lt_succ
  rw [Nat.div_lt_iff_lt_mul (by omega)]
  nlinarith

/-- Only the estimate and the clamp flags of the one record change at S8. -/
theorem State.estimate_record_ne (s : State) {i j : Slot} (h : i ≠ j) : (s.estimate i).record j = s.record j := by
  unfold State.estimate
  extract_lets
  split
  · exact (State.record_modCounters ..).trans (State.record_modRecord_ne _ _ h)
  · exact State.record_modRecord_ne _ _ h

end Sys2Proof.Machine
end

