-- ==== Sys2Proof/Laws/Management.lean ====
section
/-! SUPPORT. Frames and requests read: the envelope checks, the pairs of SET_PARAMS, and the places that PROVISION finds. -/

namespace Sys2Proof.Machine

/-! ### The envelope (R164, R188) -/

/-- Reading the number that follows a run of bytes. -/
theorem read16_append (l m : List Byte) : read16 (l ++ m) l.length = read16 m 0 := by
  have h₁ := read8_append_right l m 0
  have h₂ := read8_append_right l m 1
  simp only [Nat.add_zero] at h₁
  simp only [read16, h₁, h₂]

/-- The envelope checks, byte by byte. -/
theorem envelopeOk_eq (type b₁ b₂ c₁ c₂ : Byte) (payload : List Byte) :
    envelopeOk ([type, b₁, b₂] ++ payload ++ [c₁, c₂]) =
      (decide (payload.length ≤ 1024) && (256 * b₁.toNat + b₂.toNat == payload.length) &&
        ((crc ([type, b₁, b₂] ++ payload)).toNat == 256 * c₁.toNat + c₂.toNat)) := by
  have len : ([type, b₁, b₂] ++ payload ++ [c₁, c₂]).length = payload.length + 5 := by simp
  have cut : ([type, b₁, b₂] ++ payload ++ [c₁, c₂]).length - 2 = ([type, b₁, b₂] ++ payload).length := by simp
  have field : read16 ([type, b₁, b₂] ++ payload ++ [c₁, c₂]) 1 = 256 * b₁.toNat + b₂.toNat := rfl
  have check : read16 [c₁, c₂] 0 = 256 * c₁.toNat + c₂.toNat := rfl
  have range : decide (Config.minEnvelope ≤ payload.length + 5 ∧ payload.length + 5 ≤ Config.maxEnvelope) = decide (payload.length ≤ 1024) := by
    congr 1; simp [Config.minEnvelope, Config.maxEnvelope]
  simp only [envelopeOk]
  rw [cut, read16_append, List.take_left, len, field, check, range]
  simp

/-- The payload of a frame. -/
theorem payloadOf_eq (type b₁ b₂ c₁ c₂ : Byte) (payload : List Byte) :
    payloadOf ([type, b₁, b₂] ++ payload ++ [c₁, c₂]) = payload := by simp [payloadOf]

/-! ### SET_PARAMS (R173) -/

/-- Pairs packed one after another are read back. -/
theorem readPairs_pack (pairs : List (Nat × Nat)) (h : ∀ v ∈ pairs, v.1 < 256 ∧ v.2 < 65536) (front : List Byte) :
    ((List.range pairs.length).map fun k =>
      (read8 (front ++ (pairs.map fun v => pack8 v.1 ++ pack16 v.2).flatten) (front.length + 3 * k),
        read16 (front ++ (pairs.map fun v => pack8 v.1 ++ pack16 v.2).flatten) (front.length + 1 + 3 * k))) = pairs := by
  induction pairs generalizing front with
  | nil => rfl
  | cons v l ih =>
    obtain ⟨h₁, h₂⟩ := h v List.mem_cons_self
    rw [List.length_cons, List.range_succ_eq_map, List.map_cons, List.map_map]
    congr 1
    · congr 1
      · simp only [Nat.mul_zero]
        rw [read8_append_right]
        simp [pack8, pack16, read8]; omega
      · simp only [Nat.mul_zero, Nat.add_zero, read16, Nat.add_assoc]
        rw [read8_append_right, read8_append_right]
        simp [pack8, pack16, read8]; omega
    · have step := ih (fun w hw => h w (List.mem_cons_of_mem _ hw)) (front ++ (pack8 v.1 ++ pack16 v.2))
      have len : (front ++ (pack8 v.1 ++ pack16 v.2)).length = front.length + 3 := by simp
      rw [len] at step
      conv_rhs => rw [← step]
      apply List.map_congr_left
      intro k _
      simp only [Function.comp, List.map_cons, List.flatten_cons, List.append_assoc]
      congr 2 <;> omega

/-! ### PROVISION (R52, R53) -/

/-- The lowest-numbered way that is not valid is the one found. -/
theorem State.freeWay_eq {s : State} {id : Word32} {w : Fin 4} (h₁ : (s.bins.directory[wayIndex id w]).valid = false)
    (h₂ : ∀ v < w, (s.bins.directory[wayIndex id v]).valid = true) : s.freeWay id = some (wayIndex id w) := by
  unfold State.freeWay
  rw [show List.finRange 4 = [0, 1, 2, 3] by decide]
  have cases4 : w = 0 ∨ w = 1 ∨ w = 2 ∨ w = 3 := by clear h₁ h₂; revert w; decide
  rcases cases4 with rfl | rfl | rfl | rfl
  · simp only [List.map_cons, List.find?_cons, h₁, Bool.not_false]
  · simp only [List.map_cons, List.find?_cons, h₁, h₂ 0 (by decide), Bool.not_false, Bool.not_true]
  · simp only [List.map_cons, List.find?_cons, h₁, h₂ 0 (by decide), h₂ 1 (by decide), Bool.not_false, Bool.not_true]
  · simp only [List.map_cons, List.find?_cons, h₁, h₂ 0 (by decide), h₂ 1 (by decide), h₂ 2 (by decide), Bool.not_false, Bool.not_true]

/-- The lowest-numbered FREE slot is the one found. -/
theorem State.freeSlot_eq {s : State} {i : Slot} (h₁ : (s.record i).admin = .free) (h₂ : ∀ j < i, (s.record j).admin ≠ .free) :
    s.freeSlot = some i := by
  cases h : s.freeSlot with
  | none => exact absurd h₁ (State.freeSlot_none h i)
  | some j =>
    obtain ⟨h₃, h₄⟩ := State.freeSlot_some h
    rcases Nat.lt_trichotomy i.val j.val with h₅ | h₅ | h₅
    · exact absurd h₁ (h₄ i h₅)
    · rw [Fin.ext h₅]
    · exact absurd h₃ (h₂ j h₅)

/-- The number of a slot is read back as the slot. -/
@[simp] theorem slotOf_val (i : Slot) : slotOf i.val = some i := by simp [slotOf]

theorem slotOf_none {n : Nat} : slotOf n = none ↔ 8192 ≤ n := by simp [slotOf]

/-! ### Ingress (R141, R165) -/

/-- Everything that offering a radio frame can do. -/
theorem State.offerDownlink_cases (s : State) (f : List Byte) :
    ((Config.minFrame ≤ f.length ∧ f.length ≤ Config.maxFrame ∧ s.downlink.frames.length < Config.downlinkFifoDepth) ∧
      s.offerDownlink f = { s with downlink := { s.downlink with frames := s.downlink.frames ++ [f] } }) ∨
    s.offerDownlink f = s.modCounters fun c => { c with downlinkDrops := inc32 c.downlinkDrops } := by
  unfold State.offerDownlink
  split
  · exact .inl ⟨‹_›, rfl⟩
  · exact .inr rfl

/-- Everything that offering a request can do. -/
theorem State.offerRequest_cases (s : State) (p : List Byte) :
    (s.mgmt.requests.length < Config.requestFifoDepth ∧ ∃ q,
      s.offerRequest p = { s with mgmt := { s.mgmt with requests := s.mgmt.requests ++ [q] } }) ∨
    s.offerRequest p = s.managementDrop := by
  unfold State.offerRequest
  split
  · exact .inr rfl
  · split
    · exact .inl ⟨‹_›, _, rfl⟩
    · exact .inr rfl

end Sys2Proof.Machine
end

