-- ==== Sys2Proof/Laws/Time.lean ====
section
/-! SUPPORT. Time: what the pass timer, an interval end and an advance of the Second Count write, and what they leave. -/

namespace Sys2Proof.Machine

/-! ### The pass timer (R118) -/

/-- A stopped timer stays stopped. -/
theorem Sweep.count_stopped {w : Sweep} (p : Nat) (h : w.timer = none) : w.count p = w := by
  cases w; simp_all [Sweep.count, Sweep.reachesPass]

/-- Below P the timer counts, and the pass in progress goes on. -/
theorem Sweep.count_below {w : Sweep} {n : Nat} (p : Nat) (h : w.timer = some n) (below : n + 1 < w.period) :
    w.count p = { w with timer := some (n + 1) } := by
  have : ¬w.period ≤ n + 1 := by omega
  simp [Sweep.count, Sweep.reachesPass, h, this]

/-- At P a pass starts. -/
theorem Sweep.count_reaches {w : Sweep} {n : Nat} (p : Nat) (h : w.timer = some n) (reaches : w.period ≤ n + 1) :
    w.count p = { position := some 0, timer := some 0, period := p } := by
  simp [Sweep.count, Sweep.reachesPass, h, reaches]

/-- Counting neither starts nor stops the timer. -/
@[simp] theorem Sweep.count_isSome (w : Sweep) (p : Nat) : (w.count p).timer.isSome = w.timer.isSome := by
  unfold Sweep.count Sweep.reachesPass
  cases h : w.timer <;> simp
  split <;> rfl

/-! ### An interval end (R181, R183) -/

@[simp] theorem State.endInterval_mgmt (s : State) : s.endInterval.mgmt = s.mgmt := rfl
@[simp] theorem State.endInterval_sweep (s : State) : s.endInterval.sweep = s.sweep := rfl
@[simp] theorem State.endInterval_notices (s : State) : s.endInterval.notices = s.notices := rfl
@[simp] theorem State.endInterval_timer (s : State) : s.endInterval.stats.timer = 0 := rfl
@[simp] theorem State.endInterval_count (s : State) : s.endInterval.stats.intervalCount = inc32 s.stats.intervalCount := rfl
@[simp] theorem State.endInterval_lastEnd (s : State) : s.endInterval.stats.lastEnd = s.mgmt.secs := rfl
@[simp] theorem State.endInterval_counters (s : State) : s.endInterval.stats.counters = s.stats.counters := rfl
@[simp] theorem State.endInterval_lane (s : State) (l : Lane) : s.endInterval.lanes[l] = { s.lanes[l] with announced := true } := by
  simp [State.endInterval]

/-! ### An advance of the Second Count (R168) -/

@[simp] theorem State.advanceSecond_mgmt (s : State) : s.advanceSecond.mgmt = s.mgmt.advance := by
  unfold State.advanceSecond; extract_lets; split <;> rfl
@[simp] theorem State.advanceSecond_notices (s : State) : s.advanceSecond.notices = s.notices.age := by
  unfold State.advanceSecond; extract_lets; split <;> rfl
@[simp] theorem State.advanceSecond_sweep (s : State) : s.advanceSecond.sweep = s.sweep.count s.mgmt.params.passPeriod := by
  unfold State.advanceSecond; extract_lets; split <;> rfl
@[simp] theorem State.advanceSecond_bins (s : State) : s.advanceSecond.bins = s.bins := by
  unfold State.advanceSecond; extract_lets; split <;> rfl
@[simp] theorem State.advanceSecond_downlink (s : State) : s.advanceSecond.downlink = s.downlink := by
  unfold State.advanceSecond; extract_lets; split <;> rfl
@[simp] theorem State.advanceSecond_egress (s : State) : s.advanceSecond.egress = s.egress := by
  unfold State.advanceSecond; extract_lets; split <;> rfl
@[simp] theorem State.advanceSecond_pending (s : State) : s.advanceSecond.pending = s.pending := by
  unfold State.advanceSecond; extract_lets; split <;> rfl

/-- The three commands of the Second Count do the advance, or nothing. -/
theorem execSecondAdvance_cases (s : State) :
    (s.settled = true ∧ execSecondAdvance s = .next s.advanceSecond) ∨ (s.settled = false ∧ execSecondAdvance s = .next s) := by
  cases h : s.settled <;> simp [execSecondAdvance, h]

theorem execIntervalEnd_cases (s : State) :
    (s.settled = true ∧ s.reachesInterval = true ∧ execIntervalEnd s = .next s.advanceSecond) ∨ execIntervalEnd s = .next s := by
  cases h : s.settled <;> cases g : s.reachesInterval <;> simp [execIntervalEnd, h, g]

theorem execPassStart_cases (s : State) :
    (s.settled = true ∧ s.sweep.reachesPass = true ∧ execPassStart s = .next s.advanceSecond) ∨ execPassStart s = .next s := by
  cases h : s.settled <;> cases g : s.sweep.reachesPass <;> simp [execPassStart, h, g]

end Sys2Proof.Machine
end

