-- ==== Sys2Proof/Laws/Visits.lean ====
section
/-! SUPPORT. The Visit List: which records its changes touch, and that they touch links alone. -/

namespace Sys2Proof.Machine

/-! ### The slots behind -/

/-- The slots moved forward when a slot leaves: with no slot twice in the list, each of them once. -/
theorem State.record_moveForward (s : State) (l : List Slot) (h : l.Nodup) (j : Slot) :
    (l.foldl (fun s j => s.modRecord j BinRecord.moveForward) s).record j =
      if j ∈ l then (s.record j).moveForward else s.record j := by
  induction l generalizing s with
  | nil => simp
  | cons a l ih =>
    obtain ⟨ha, hl⟩ := List.nodup_cons.1 h
    rw [List.foldl_cons, ih _ hl, State.record_modRecord]
    by_cases hja : a = j
    · subst hja; simp [ha]
    · have : ¬j = a := fun e => hja e.symm
      simp [hja, this]

/-- A bucket whose every place is named by links holds no slot twice. -/
theorem bucket_nodup {l : List Slot} (place : Slot → Nat) (h : ∀ p i, l[p]? = some i → place i = p) : l.Nodup := by
  rw [List.nodup_iff_getElem?_ne_getElem?]
  intro a b hab hb e
  obtain ⟨i, hi⟩ : ∃ i, l[a]? = some i := ⟨l[a], List.getElem?_eq_getElem (by omega)⟩
  have h1 := h a i hi
  have h2 := h b i (e ▸ hi)
  omega

/-- Links alone change at the slots moved forward. -/
theorem State.moveForward_links (s : State) (l : List Slot) (j : Slot) :
    ∃ k, (l.foldl (fun s j => s.modRecord j BinRecord.moveForward) s).record j = { s.record j with links := k } := by
  induction l generalizing s with
  | nil => exact ⟨_, rfl⟩
  | cons a l ih =>
    obtain ⟨k, hk⟩ := ih (s.modRecord a BinRecord.moveForward)
    rw [List.foldl_cons, hk, State.record_modRecord]
    by_cases h : a = j
    · subst h; exact ⟨k, by simp [BinRecord.moveForward]⟩
    · exact ⟨k, by simp [h]⟩

/-! ### JOIN, LEAVE and MOVE -/

theorem State.removeFromBucket_links (s : State) (i : Slot) (b : Band) (k : Bucket) (j : Slot) :
    ∃ m, (s.removeFromBucket i b k).record j = { s.record j with links := m } :=
  State.moveForward_links _ _ j

theorem State.appendToBucket_links (s : State) (i : Slot) (b : Band) (k : Bucket) (j : Slot) :
    ∃ m, (s.appendToBucket i b k).record j = { s.record j with links := m } := by
  unfold State.appendToBucket
  by_cases h : i = j
  · subst h; exact ⟨_, State.record_modRecord_self _ i _⟩
  · exact ⟨_, State.record_modRecord_ne _ _ h⟩

theorem State.joinList_links (s : State) (i : Slot) (b : Band) (k : Bucket) (j : Slot) :
    ∃ m, (s.joinList i b k).record j = { s.record j with links := m } := s.appendToBucket_links i b k j

theorem State.leaveList_links (s : State) (i : Slot) (b : Band) (j : Slot) :
    ∃ m, (s.leaveList i b).record j = { s.record j with links := m } := by
  unfold State.leaveList
  split
  · exact ⟨_, rfl⟩
  · rename_i k _
    obtain ⟨m, hm⟩ := s.removeFromBucket_links i b k.bucket j
    by_cases h : i = j
    · subst h
      refine ⟨none, ?_⟩
      change ((s.removeFromBucket i b k.bucket).modRecord i fun r => { r with links := none }).record i = _
      rw [State.record_modRecord_self, hm]
    · refine ⟨m, ?_⟩
      change ((s.removeFromBucket i b k.bucket).modRecord i fun r => { r with links := none }).record j = _
      rw [State.record_modRecord_ne _ _ h, hm]

theorem State.moveList_links (s : State) (i : Slot) (b : Band) (k : Bucket) (c : Band) (n : Bucket) (j : Slot) :
    ∃ m, (s.moveList i b k c n).record j = { s.record j with links := m } := by
  obtain ⟨m, hm⟩ := s.removeFromBucket_links i b k j
  obtain ⟨o, ho⟩ := (s.removeFromBucket i b k).appendToBucket_links i c n j
  exact ⟨o, ho.trans (by rw [hm])⟩

theorem State.reconcile_links (s : State) (i : Slot) (b : Band) (e : Nat) (j : Slot) :
    ∃ m, (s.reconcile i b e).record j = { s.record j with links := m } := by
  unfold State.reconcile
  split
  · split
    · exact ⟨_, rfl⟩
    · exact s.joinList_links ..
  · split
    · exact s.leaveList_links ..
    · split
      · exact ⟨_, rfl⟩
      · exact s.moveList_links ..

/-- A LEAVE leaves the slot without links, whether or not it was listed. -/
theorem State.leaveList_self (s : State) (i : Slot) (b : Band) : ((s.leaveList i b).record i).links = none := by
  unfold State.leaveList
  split
  · assumption
  · rename_i k _
    change (((s.removeFromBucket i b k.bucket).modRecord i fun r => { r with links := none }).record i).links = none
    rw [State.record_modRecord_self]

/-- LEAVE at a slot that is not listed changes nothing. -/
theorem State.leaveList_of_none {s : State} {i : Slot} (b : Band) (h : (s.record i).links = none) : s.leaveList i b = s := by
  simp [State.leaveList, h]

/-! ### Bands -/

/-- At or above a band and below the next: every candidate is one or the other. -/
theorem countAtOrAbove_add_countAtOrBelow_near (l : List Band) : countAtOrAbove l .near + countAtOrBelow l .low = l.length := by
  rw [List.length_eq_countP_add_countP (p := fun x => decide (Band.near.rank ≤ x.rank))]
  simp only [countAtOrAbove, countAtOrBelow]
  congr 1; apply List.countP_congr; intro x _; cases x <;> simp [Band.rank]

theorem countAtOrAbove_add_countAtOrBelow_full (l : List Band) : countAtOrAbove l .full + countAtOrBelow l .near = l.length := by
  rw [List.length_eq_countP_add_countP (p := fun x => decide (Band.full.rank ≤ x.rank))]
  simp only [countAtOrAbove, countAtOrBelow]
  congr 1; apply List.countP_congr; intro x _; cases x <;> simp [Band.rank]

theorem countAtOrAbove_full_le_near (l : List Band) : countAtOrAbove l .full ≤ countAtOrAbove l .near := by
  apply List.countP_mono_left; intro x _; cases x <;> simp [Band.rank]

theorem countAtOrBelow_low_le_near (l : List Band) : countAtOrBelow l .low ≤ countAtOrBelow l .near := by
  apply List.countP_mono_left; intro x _; cases x <;> simp [Band.rank]

/-- The candidate list holds at most n_c entries after a push (R98). -/
theorem pushCandidate_length_le (nC : Nat) (b : Band) (l : List Band) : (pushCandidate nC b l).length ≤ nC := by
  simp only [pushCandidate, List.length_take]; omega

end Sys2Proof.Machine
end

