-- ==== Sys2Proof/Tests/Slice0.lean ====
section
/-! SUPPORT. The model's own tests, on values that the manual works out, and for each statement that has hypotheses a concrete state and operands that meet them, at the edges of their ranges. -/

namespace Sys2Proof.Tests

open Sys2Proof.Machine Sys2Proof.Safety

-- One theorem at a time: in parallel these kernel evaluations ask for more threads than the memory limit allows.
set_option Elab.async false

/-! ### Helpers -/

/-- What a reading of the next state gives after one command. -/
def after {α : Type} (c : Instr) (s : State) (f : State → α) : Option α :=
  match exec c s with
  | .next t => some (f t)
  | _ => none

/-- A state with one request waiting. -/
def ask (code : Byte) (params : List Byte) (s : State) : State :=
  { s with mgmt := { s.mgmt with requests := [{ tag := 7, code := code, params := params }] } }

/-- The part in RUNNING. -/
def run (s : State) : State := { s with mgmt := { s.mgmt with running := true }, sweep := { s.sweep with timer := some 0 } }

/-- A state with frames waiting on a lane. -/
def waiting (l : Lane) (q : List LaneFrame) (s : State) : State := s.modLane l fun x => { x with fifo := q }

/-- Changed parameters. -/
def params (f : Params → Params) (s : State) : State := { s with mgmt := { s.mgmt with params := f s.mgmt.params } }

/-- The state reset, with its name shortened. -/
abbrev base : State := State.reset

/-- The only response given: its status code, then its result bytes as numbers. -/
def answer (s : State) : List (Nat × List Nat) := s.egress.responses.map fun r => (r.status.code, r.results.map BitVec.toNat)

/-! ### Well-formedness: the check refuses ill-formed terms -/

theorem test_wellFormed_refuses_identifier_zero : (Instr.copyExpiry 0 5).wellFormed = false := by decide
theorem test_wellFormed_refuses_identifier_ones : (Instr.copyExpiry 0xFFFFFFFF 5).wellFormed = false := by decide
theorem test_wellFormed_admits_identifier_one : (Instr.copyExpiry 1 0).wellFormed = true := by decide

/-! ### No word of the table spells a command -/

theorem test_decode_spells_none : decodeTableWord 8 0 = none ∧ base.withFetchWord 8 0 = base := ⟨rfl, rfl⟩

/-! ### Numbers and bytes (00_scope.md, 12) -/

/-- A CRC worked by hand: one byte 00 leaves the register at E1F0 hex (sixteen ones, shifted eight times with the generator). -/
theorem test_crc_of_one_zero : crc [0x00] = 0xE1F0 := by decide
theorem test_time_wraps : atOrAfter 0 0xFFFFFFFF = true ∧ atOrAfter 0xFFFFFFFF 0 = false ∧ atOrAfter 0x80000000 0 = false := by decide
theorem test_pack_signed : packInt16 (-97) = [0xFF, 0x9F] := by decide
/-- 4.1: identifier 004A217C hex has row 1502. -/
theorem test_directory_row : dirRow 0x004A217C = 1502 := by decide

/-! ### The worked cases of 2.8 -/

/-- Chain 4-5 of 2.8 selects positions 0 to 19. -/
theorem test_chain_positions : chainPositions [{ Filter.initial with mask := 0xFFFF }, { Filter.initial with mask := 0x000F, offset := 9 }] 0 =
    List.range 20 := by decide

/-- Layout 4 of 2.8, and the frame that it decodes, its temperature byte as given. -/
def layout4 : Layout :=
  { Layout.initial with
    idOffset := 3, seqOffset := 7, seqOrder := .little, measureOffset := 9, measureOrder := .little, kind := .tofUs, temperature := some 11,
    flags := some 12, lid := some 0, tilt := some 1, restart := some 7 }
def frame17 (temperature : Byte) : LaneFrame :=
  { bytes := [0, 0, 0, 0x00, 0x4A, 0x21, 0x7C, 0x2C, 0x01, 0x88, 0x13, temperature, 0x81, 0, 0, 0, 0], rssi := -97, arrival := 482115 }
theorem test_decoded_sample : layout4.minLength = 15 ∧ layout4.sample 1 (frame17 0x14) 2 =
    { lane := 1, rssi := -97, arrival := 482115, filter := 2, identifier := 0x004A217C, sequence := 300, kind := .tofUs, raw := 5000,
      temperature := some 20, lid := some true, tilt := some false, restart := some true, shatter := none } := by decide
theorem test_decoded_below_zero : (layout4.sample 1 (frame17 0xF6) 2).temperature = some (-10) := by decide

/-! ### The worked cases of 5.9 -/

theorem test_distance_cases : distanceOf .tofUs 5000 (some 20) = 858 ∧ distanceOf .tofUs 2400 (some (-55)) = 369 ∧
    distanceOf .tofUs 2400 none = 412 ∧ distanceOf .tofUs 65535 (some 110) = 12527 := by decide

/-- Page 5 of 5.9, with its points 10 and 11. -/
def page5 : CurvePage := { origin := 200, exponent := 6, points := ((Vector.replicate 33 0).set 10 540).set 11 505 }
theorem test_curve_falling : curveFill page5 858 = 530 := by decide

/-- Page 9 of 5.9: the three pairs at a half. -/
def page9 (a b : Nat) : CurvePage := { origin := 0, exponent := 4, points := ((Vector.replicate 33 0).set 0 a).set 1 b }
theorem test_curve_halves : curveFill (page9 300 301) 8 = 301 ∧ curveFill (page9 301 300) 8 = 301 ∧ curveFill (page9 300 310) 8 = 305 := by
  decide

/-- A ring that holds 512, 498 and 470. -/
def ring3 : Ring := { cells := ((((Vector.replicate 16 0).set 2 512).set 1 498).set 0 470), head := 2, occupancy := 3 }
theorem test_push : (ring3.push 8 530).stored = [530, 512, 498, 470] := by decide
theorem test_median : median3 530 512 498 = 512 := by decide

/-- The kernel of 5.9 at positions 20 to 23. -/
def stores5 : Stores := { base.stores with kernel := ((((Vector.replicate 128 0).set 20 6554).set 21 4915).set 22 3277).set 23 1638 }
/-- Class 3 of 5.9 and 6.7. -/
def class3 : ClassDesc :=
  { ClassDesc.initial with
    loaded := true, ringLength := 8, kernelStart := 20, kernelLength := 4, maxRise := 150, collectDrop := 300, collectFloor := 200,
    hysteresis := 40, nC := 5, kC := 3, minDistance := 150, maxDistance := 2400, reportInterval := 900, lateCount := 2, silentCount := 4 }
theorem test_kernel_value : kernelValue stores5 class3 (ring3.push 8 530) = 512 ∧
    kernelValue stores5 class3 (ring3.push 8 512) = 505 := by decide
theorem test_settling_mean : settlingMean { ring3 with cells := (ring3.cells.set 2 131).set 1 96, occupancy := 2 } = 114 := by decide
theorem test_collection_falls : fallCollects class3 { ring3 with cells := ring3.cells.set 2 880 } 96 = true ∧
    fallCollects class3 { ring3 with cells := ring3.cells.set 2 650 } 260 = false := by decide

/-! ### Bands (6.7), liveness (R120), lanes (R11) -/

theorem test_band_climbs : candidateBand class3 .low 490 = .low ∧ candidateBand class3 .near 480 = .near ∧
    candidateBand class3 .near 455 = .low ∧ confirmedBand 3 [.near, .low, .near, .near, .low] .low = .near ∧
    confirmedBand 3 [.low, .low, .near, .near, .low] .near = .low ∧ bucketOf 560 = 35 := by decide
theorem test_band_moves_to_full : confirmedBand 3 [.full, .full, .full, .near, .near] .near = .full := by decide
/-- R120: I = 900, last heard 10,000 and a visit at 11,830. -/
theorem test_missed_figure : missedFigure 11830 10000 900 = 2 ∧ missedFigure 5 10 900 = 0 := by decide
theorem test_interval_classes : intervalClass 103 0 0 = .quiet ∧ intervalClass 103 16 2 = .degraded ∧ intervalClass 103 15 15 = .errored ∧
    intervalClass 103 16 1 = .errored ∧ intervalClass 103 16 0 = .clean := by decide

/-! ### One step of each command -/

/-- A frame of four bytes with a good check. -/
def good4 : List Byte := [0x12, 0x34] ++ pack16 (crc [0x12, 0x34]).toNat
/-- An entry of a lane FIFO. -/
def entry4 : LaneFrame := { bytes := good4, rssi := -97, arrival := 0 }

theorem test_frameArrival_joins : after (.frameArrival 2 (BitVec.ofInt 16 (-200)) good4) base (fun t => (t.lanes[2]).fifo) =
    some [{ bytes := good4, rssi := -150, arrival := 0 }] := by decide +kernel
theorem test_frameArrival_bad_check : after (.frameArrival 2 0 [1, 2, 3, 4]) base (fun t => ((t.lanes[2]).fifo, (t.lanes[2]).errorTally)) =
    some ([], 1) := by decide +kernel
theorem test_secondStartMarker_runt : after (.secondStartMarker 1) base (fun t => (t.stats.laneCounters[1]).runts) = some 1 := by decide +kernel
/-- R19: with the pointer at 1 the order is 2, 3, 0, 1. -/
theorem test_take_order : after .take (waiting 0 [entry4] (waiting 1 [entry4] { base with classifier := { base.classifier with pointer := 1 } }))
    (fun t => (t.classifier.pointer, t.egress.forward.length)) = some (0, 1) := by decide
theorem test_copyExpiry : after (.copyExpiry 1 5) { base with copies := [⟨1, 5, 0⟩, ⟨1, 6, 1⟩] } (fun t => t.copies) =
    some [⟨1, 6, 1⟩] := by decide +kernel
theorem test_entryDue : after (.entryDue 3) { base with downlink := { base.downlink with queue := [⟨3, 1, 0, 9, .waiting⟩] } }
    (fun t => t.downlink.queue) = some [⟨3, 1, 0, 9, .due⟩] := by decide
theorem test_entryExpiry : after (.entryExpiry 3) { base with downlink := { base.downlink with queue := [⟨3, 1, 0, 0, .due⟩] } }
    (fun t => (t.downlink.queue, t.stats.counters.expired, (t.record 3).pendingFlag)) = some ([], 1, true) := by decide +kernel
theorem test_reMeasureHandover : after .reMeasureHandover { base with downlink := { base.downlink with queue := [⟨3, 0x004A217C, 0, 9, .due⟩] } }
    (fun t => t.downlink.tx.map fun x => x.bytes.take 6) = some (some [0x00, 0x4A, 0x21, 0x7C, 0x01, 0x02]) := by decide +kernel
theorem test_passThroughHandover : after .passThroughHandover { base with downlink := { base.downlink with frames := [good4] } }
    (fun t => (t.downlink.frames, t.downlink.tx.map TxSend.bytes)) = some ([], some good4) := by decide +kernel
/-- A pass-through frame in send since 0. -/
def sending : State := { base with downlink := { base.downlink with tx := some ⟨.passThrough, 0, good4⟩ } }
theorem test_txDone : after .txDone sending (fun t => (t.downlink.tx, t.stats.counters.downlinkDrops)) = some (none, 0) := by decide
theorem test_txFail : after .txFail sending (fun t => (t.downlink.tx, t.stats.counters.downlinkDrops)) = some (none, 1) := by decide
theorem test_transmitTimeout : after .transmitTimeout { sending with mgmt := { sending.mgmt with ms := 4000 } } (fun t => t.downlink.tx) =
    some none ∧ after .transmitTimeout { sending with mgmt := { sending.mgmt with ms := 3999 } } (fun t => t.downlink.tx.isSome) =
    some true := by decide
theorem test_ingressFrame : after (.ingressFrame (envelope 0x01 [0, 7, 0x01])) base (fun t => t.mgmt.requests) =
    some [⟨7, 0x01, []⟩] := by decide +kernel
theorem test_identify : after .identify (ask 0x01 [] base) answer =
    some [(0, [0x1F, 0xE0, 1, 0, 0, 0, 0, 0, 0, 0, 0, 0, 0, 0, 0])] := by decide +kernel
theorem test_start : after .start (ask 0x02 [] base) (fun t => (t.mgmt.running, t.sweep.timer, answer t)) =
    some (true, some 0, [(0, [0, 0, 0, 0])]) := by decide +kernel
theorem test_stop_in_standby : after .stop (ask 0x03 [] base) answer = some [(9, [])] := by decide
theorem test_restart : after .restart (ask 0x04 [] (run (waiting 0 [entry4] base))) (fun t => (t.mgmt.running, (t.lanes[0]).fifo, answer t)) =
    some (false, [], [(0, [])]) := by decide
theorem test_setTime : after .setTime (ask 0x05 [1, 2, 3, 4] base) (fun t => (t.mgmt.secs, answer t)) =
    some (0x01020304, [(0, [1, 2, 3, 4])]) := by decide
theorem test_setParams_clamps : after .setParams (ask 0x06 [2, 6, 0, 0, 13, 0, 0] base)
    (fun t => (t.mgmt.params.thr, t.mgmt.params.rangePolicy, answer t)) = some (1, .drop, [(1, [2, 6, 0, 1, 13, 0, 0])]) := by decide
/-- Class 2 loaded. -/
def loaded : State := { base with stores := { base.stores with classes := base.stores.classes.set 2 { class3 with maxAttempts := 5 } } }
theorem test_provision : after .provision (ask 0x10 [0, 0, 0x10, 0x01, 2, 9, 0, 0, 0] loaded)
    (fun t => ((t.lookup 0x1001).map Fin.val, (t.record 0).attempts, (t.record 0).profileFilter.val, answer t)) =
    some (some 0, 5, 9, [(0, [0, 0])]) := by decide +kernel
/-- An ACTIVE bin of identifier 1001 hex in slot 0, found through way 0 of row 0. -/
def withBin (r : BinRecord) (s : State) : State :=
  (s.setRecord 0 { r with identifier := 0x1001 }).setWay 0 { valid := true, identifier := 0x1001, slot := 0 }
/-- An ACTIVE record. -/
def active : BinRecord := { BinRecord.free with admin := .active, cls := 2, profileFilter := 0, attempts := 5 }
theorem test_retire : after .retire (ask 0x11 [0, 0, 0, 0x10, 0x01] (withBin active loaded))
    (fun t => ((t.lookup 0x1001).isSome, (t.record 0).admin, answer t)) = some (false, .free, [(0, [0, 0, 0, 0, 0x10, 0x01])]) := by decide +kernel
theorem test_setAdmin : after .setAdmin (ask 0x12 [1, 0, 0, 0, 0, 2] (withBin active loaded))
    (fun t => ((t.record 0).admin, answer t)) = some (.suspended, [(0, [0, 0, 0, 0, 0x10, 0x01, 2])]) := by decide +kernel
theorem test_confirmVisit : after .confirmVisit (ask 0x13 [1, 0, 0, 0, 0] (withBin active loaded))
    (fun t => ((t.record 0).visitMark, answer t)) = some (true, [(0, [0, 0, 0, 0, 0x10, 0x01, 0, 0, 0, 0, 0])]) := by decide +kernel
theorem test_loadClass : after .loadClass (ask 0x20 ([15] ++ class3.packFields) base) (fun t => (t.classDesc 15, answer t)) =
    some (class3, [(0, [])]) := by decide +kernel
theorem test_readClass_above_15 : after .readClass (ask 0x21 [16] base) answer = some [(4, [])] := by decide
theorem test_loadCurve_clamps : after .loadCurve (ask 0x22 ([15] ++ pack16 8191 ++ [8] ++ pack16 1001 ++ List.replicate 64 0) base)
    (fun t => ((t.stores.curves[15]).point 0, answer t)) = some (1000, [(1, [])]) := by decide +kernel
theorem test_loadKernel : after .loadKernel (ask 0x23 [127, 1, 0xFF, 0xFF] base) (fun t => (t.stores.kernel[127], answer t)) =
    some (-1, [(0, [])]) := by decide +kernel
theorem test_loadFilter_fifth_of_a_chain : after .loadFilter (ask 0x24 [3, 1, 0, 0, 0, 0, 0, 0, 0, 1, 2, 0]
    { base with classifier := { base.classifier with filters :=
      (((base.classifier.filters.set 0 { Filter.initial with cascade := true }).set 1 { Filter.initial with cascade := true }).set 2
        { Filter.initial with cascade := true }) } }) answer = some [(4, [3])] := by decide
/-- R30: a largest field end of 13 needs frames of 15 bytes. -/
theorem test_loadLayout : after .loadLayout (ask 0x25 [15, 9, 1, 7, 0, 5, 0, 0, 0, 0, 0, 0, 0, 0, 0, 0, 0, 0, 0, 0] base)
    (fun t => ((t.classifier.layouts[15]).minLength, answer t)) = some (15, [(0, [])]) := by decide
theorem test_readBin_free : after .readBin (ask 0x30 [1, 0, 0, 0x1F, 0xFF, 0] base) answer = some [(5, [])] := by decide +kernel
theorem test_readBinRange_end : after .readBinRange (ask 0x31 [0x1F, 0xFF, 40] base) (fun t => (answer t).map fun a => a.2.take 3) =
    some [[1, 0x1F, 0xFF]] := by decide +kernel
theorem test_readVisitList_empty : after .readVisitList (ask 0x32 [2, 0, 5, 24] base) answer = some [(0, [0, 0, 0, 0, 0])] := by decide +kernel
theorem test_readDiscovery : after .readDiscovery (ask 0x33 [1] { base with bins := { base.bins with discovery := [⟨1, 2, 3, 4, 5⟩] } })
    (fun t => (t.bins.discovery, answer t)) = some ([], [(0, [1, 0, 0, 0, 1, 0, 0, 0, 2, 0, 0, 0, 3, 0, 4, 5])]) := by decide
theorem test_readCounters : after .readCounters (ask 0x34 [0x20, 0x04, 1]
    { base with stats := { base.stats with counters := { Counters.zero with clamps := 258 } } }) (fun t => (t.stats.counters.clamps, answer t)) =
    some (0, [(0, [0x20, 0x04, 1, 0, 0, 0, 0, 0, 0, 0, 0, 0, 0, 0, 0, 0, 0, 0, 0, 0, 0, 1, 2])]) := by decide
theorem test_flushDigest : after .flushDigest (ask 0x35 [] base) (fun t => (t.notices.flushPending, answer t)) =
    some (true, [(0, [0, 0, 0, 0])]) := by decide
theorem test_badCommandRequest : after .badCommandRequest (ask 0x07 [] base) answer = some [(2, [])] := by decide
/-- R181: at timer S the timer, the count and the time of the last end move together. -/
theorem test_secondAdvance : after .secondAdvance { base with stats := { base.stats with timer := 59 } }
    (fun t => (t.mgmt.ms, t.mgmt.secs, t.stats.timer, t.stats.intervalCount, t.stats.lastEnd)) = some (1000, 1, 0, 1, 1) := by decide
/-- The interval end of 11.6: count 517, and an advance of the Second Count to 39,120 that brings the timer to 60. -/
theorem test_intervalEnd : after .intervalEnd
    { base with mgmt := { base.mgmt with secs := 39119 }, stats := { base.stats with timer := 59, intervalCount := 517, lastEnd := 39060 } }
    (fun t => (t.stats.timer, t.stats.intervalCount, t.stats.lastEnd, (t.lanes[3]).announced)) = some (0, 518, 39120, true) := by decide
theorem test_intervalEnd_early : after .intervalEnd { base with stats := { base.stats with timer := 58 } }
    (fun t => (t.mgmt.secs, t.stats.timer, t.stats.intervalCount)) = some (0, 58, 0) := by decide
theorem test_laneIntervalEnd_quiet : after (.laneIntervalEnd 0) (base.modLane 0 fun x => { x with announced := true, quietRun := 4 })
    (fun t => ((t.lanes[0]).health, (t.lanes[0]).quietRun, t.notices.queue.length)) = some (.mute, 5, 1) := by decide
theorem test_passStart : after .passStart { run base with sweep := { base.sweep with timer := some 59 } }
    (fun t => (t.mgmt.secs, t.sweep.position, t.sweep.timer)) = some (1, some 0, some 0) := by decide
theorem test_sweepVisit_silent : after .sweepVisit
    (withBin active { loaded with sweep := { base.sweep with position := some 0 }, mgmt := { base.mgmt with secs := 3600 } })
    (fun t => ((t.record 0).liveness, (t.record 0).missed, t.sweep.position, t.notices.queue.length)) = some (.silent, 4, some 1, 1) := by
  decide +kernel
theorem test_responseGrant : after .responseGrant { base with egress := { base.egress with responses := [⟨7, 0x01, .ok, []⟩] } }
    (fun t => (t.egress.responses, t.egress.link.map List.length)) = some ([], some 9) := by decide
theorem test_forwardGrant : after .forwardGrant { base with egress := { base.egress with forward := [⟨1, -97, 0, .none, good4⟩] } }
    (fun t => t.egress.link.map fun b => b.take 7) = some (some [0x81, 0, 12, 1, 0xFF, 0x9F, 0]) := by decide
theorem test_digestGrant : after .digestGrant { base with notices := { base.notices with flushPending := true, digestSequence := 0xFFFF } }
    (fun t => (t.notices.digestSequence, t.notices.flushPending, t.egress.link.map fun b => b.take 5)) =
    some (0, false, some [0x82, 0, 9, 0xFF, 0xFF]) := by decide
theorem test_digestHoldDue : after .digestHoldDue base (fun t => decide (t.notices = base.notices)) = some true := by decide
theorem test_egressDone : after .egressDone { base with egress := { base.egress with link := some [] } } (fun t => t.egress.link) =
    some none := by decide
theorem test_powerOnReset : after .powerOnReset { run base with pending := [.take] } (fun t => (t.mgmt.running, t.pending)) =
    some (false, [.take]) := by decide

/-! ### Witnesses: the laws (statements EveryStepKeeps…) -/

/-- An ACTIVE FULL bin of identifier FFFFFFFE hex in slot 8191, listed alone in bucket 50. -/
def listedRecord : BinRecord :=
  { BinRecord.free with
    identifier := 0xFFFFFFFE, admin := .active, attempts := 1, band := .full, estimate := some 800, lastArrival := some 0
    ring := { Ring.empty with occupancy := 1 }, links := some { bucket := 50, position := 0 } }

/-- The part with that bin alone, and a re-measure of it DUE. -/
def listed : State :=
  { ((base.setRecord 8191 listedRecord).setWay (wayIndex 0xFFFFFFFE 3) { valid := true, identifier := 0xFFFFFFFE, slot := 8191 }) with
    visits := { base.visits with full := base.visits.full.set 50 [8191], fullCount := 1 }
    downlink := { base.downlink with queue := [⟨8191, 0xFFFFFFFE, 0, 10, .due⟩] }
    mgmt := { base.mgmt with running := true }
    sweep := { base.sweep with timer := some 0 }
    copies := [⟨1, 1, 1⟩, ⟨1, 2, 1⟩]
    pending := [.egressDone] }

theorem listed_record (i : Slot) : listed.record i = if 8191 = i then listedRecord else BinRecord.free := by
  show (base.setRecord 8191 listedRecord).record i = _
  rw [State.record_setRecord]
  split
  · rfl
  · simp [State.record, base, State.reset]

theorem listed_way (k : Fin 16384) : listed.bins.directory[k] =
    if wayIndex 0xFFFFFFFE 3 = k then { valid := true, identifier := 0xFFFFFFFE, slot := 8191 } else DirWay.initial := by
  show ((base.setRecord 8191 listedRecord).bins.directory.set (wayIndex 0xFFFFFFFE 3) _)[k] = _
  simp only [Fin.getElem_fin, Vector.getElem_set, Fin.ext_iff]
  split
  · rfl
  · simp [State.setRecord, base, State.reset]

theorem listed_bucket (b : Band) (k : Bucket) : listed.visits.bucket b k = if b = .full ∧ 50 = k then [8191] else [] := by
  cases b with
  | low => rfl
  | near => simp [VisitList.bucket, listed, base, State.reset]
  | full =>
    simp only [VisitList.bucket, listed, base, State.reset, Fin.getElem_fin, Vector.getElem_set, true_and]
    by_cases h : 50 = k
    · subst h; rfl
    · have : ¬50 = k.val := fun e => h (Fin.ext e)
      simp [this, h]

theorem witness_visitListSound : VisitListSound listed := by
  refine ⟨fun i => ?_, fun i k h => ?_, fun b k p i h => ?_, by decide +kernel, by decide +kernel⟩
  · rw [listed_record]; split <;> simp [listedRecord, BinRecord.free]
  · rw [listed_record] at h ⊢
    split at h
    · rename_i e
      subst e
      simp only [listedRecord, Option.some.injEq] at h
      subst h
      exact ⟨by rw [if_pos rfl, listed_bucket]; rfl, 800, by rw [if_pos rfl]; rfl, by decide⟩
    · simp [BinRecord.free] at h
  · rw [listed_bucket] at h
    split at h
    · rename_i e
      obtain ⟨rfl, rfl⟩ := e
      match p, h with
      | 0, h => simp only [List.getElem?_cons_zero, Option.some.injEq] at h; subst h; rw [listed_record, if_pos rfl]; exact ⟨rfl, rfl⟩
      | p + 1, h => simp at h
    · simp at h

theorem listed_lookup : listed.lookup 0xFFFFFFFE = some 8191 := by decide +kernel

theorem witness_identifiersSound : IdentifiersSound listed := by
  have way : ∀ k : Fin 16384, (listed.bins.directory[k]).valid = true → wayIndex 0xFFFFFFFE 3 = k := by
    intro k h
    rw [listed_way] at h
    split at h
    · assumption
    · simp [DirWay.initial] at h
  refine ⟨fun i j hi hj _ => ?_, fun k h => ?_, fun k m hk hm _ => (way k hk).symm.trans (way m hm), fun i h => ?_, ?_⟩
  · rw [listed_record] at hi hj
    split at hi <;> split at hj <;> simp_all [BinRecord.free]
  · have e := way k h
    subst e
    rw [listed_way, if_pos rfl, listed_record, if_pos rfl]
    exact ⟨by decide, by decide, rfl⟩
  · rw [listed_record] at h ⊢
    split at h
    · rename_i e; subst e; rw [if_pos rfl]; exact listed_lookup
    · simp [BinRecord.free] at h
  · exact ⟨List.nodup_nil, fun e h => by cases h⟩

theorem witness_queueSound : QueueSound listed := by
  refine ⟨by decide, fun e h => ?_⟩
  simp only [listed, List.mem_singleton] at h
  subst h
  rw [listed_record, if_pos rfl]
  exact ⟨rfl, rfl, by decide⟩

theorem witness_sizes : SizesFit listed ∧ FramesFit listed ∧ CopiesDistinct listed := by
  refine ⟨⟨by decide, by decide, by decide, by decide, by decide, by decide, by decide, by decide, by decide, by decide⟩,
    ⟨fun l f h => ?_, fun r h => ?_, fun f h => ?_⟩, by unfold CopiesDistinct; decide⟩
  · have e : ∀ l : Lane, (listed.lanes[l]).fifo = [] := by decide
    rw [e] at h; cases h
  · cases h
  · cases h

theorem witness_classesAndChains : ClassesSound listed ∧ ChainsFit listed := by
  unfold ClassesSound ChainsFit
  exact ⟨by decide +kernel, by decide +kernel⟩

theorem witness_fillsAndRings : FillsInRange listed ∧ RingsFit listed := by
  refine ⟨⟨by decide +kernel, fun i k => ?_, fun i e h => ?_⟩, fun i => ?_⟩
  · rw [listed_record]; split <;> simp [listedRecord, BinRecord.free, Ring.empty]
  · rw [listed_record] at h
    split at h
    · simp only [listedRecord, Option.some.injEq] at h; subst h; decide
    · simp [BinRecord.free] at h
  · rw [listed_record]; split <;> decide

theorem witness_processingAndCounters : ProcessingSound listed ∧ CountersFit listed := by
  refine ⟨⟨rfl, fun h => absurd h (by decide), by decide⟩, fun i => ?_⟩
  rw [listed_record]; split <;> (unfold BinCountersFit; decide)

/-- From that state a step answers a next state. -/
theorem witness_stepAnswers : ∃ t, step listed = .next t := ⟨_, rfl⟩

/-! ### Witnesses: the fill computation, bands, queues -/

theorem witness_idle : base.pending = [] ∧ base.ownEvent = none ∧
    ({ base with mgmt := { base.mgmt with phase := 1000 } } : State).ownEvent = some .secondAdvance := by decide

theorem witness_timeOfFlight : 65535 ≤ 65535 ∧ distanceOf .tofUs 65535 (some 85) = 12527 ∧ distanceOf .tofUs 0 (some (-41)) = 0 := by decide

theorem witness_curve : 199 < page5.origin ∧ page5.origin + 32 * 2 ^ page5.exponent ≤ 2248 ∧
    (31 < 32 ∧ 63 < 2 ^ page5.exponent ∧ 2247 = page5.origin + 31 * 2 ^ page5.exponent + 63) := by decide

theorem witness_median : (({ class3 with median := true } : ClassDesc).median = true ∧ 2 ≤ ({ ring3 with occupancy := 2 } : Ring).occupancy) ∧
    ¬(({ class3 with median := true } : ClassDesc).median = true ∧ 2 ≤ ({ ring3 with occupancy := 1 } : Ring).occupancy) := by decide

theorem witness_push : (1 ≤ 1 ∧ 1 ≤ 16 ∧ ring3.occupancy ≤ 16) ∧ 1 ≤ 16 ∧ ({ ring3 with occupancy := 16 } : Ring).occupancy ≤ 16 := by decide

/-- A bin whose class weighs the newest of its stored values alone, 1000, by this coefficient. -/
def weighed (coefficient : Int) : State :=
  withBin { active with ring := { cells := Vector.replicate 16 1000, head := 0, occupancy := 1 } }
    { base with stores := { base.stores with kernel := base.stores.kernel.set 0 coefficient } }

theorem witness_settling : 1 ≤ ((withBin { active with ring := ring3 } loaded).record 0).ring.occupancy ∧
    ((withBin { active with ring := ring3 } loaded).record 0).ring.occupancy <
      ((withBin { active with ring := ring3 } loaded).classOf 0).kernelLength := by decide +kernel

/-- Kernel values −1, 0, 1000 and 1001. -/
theorem witness_kernel : ∀ v ∈ ([(-16, -1), (0, 0), (16384, 1000), (16401, 1001)] : List (Int × Int)),
    ((weighed v.1).classOf 0).kernelLength ≤ ((weighed v.1).record 0).ring.occupancy ∧
      16384 * v.2 ≤ kernelSum (weighed v.1).stores ((weighed v.1).classOf 0) ((weighed v.1).record 0).ring + 8192 ∧
      kernelSum (weighed v.1).stores ((weighed v.1).classOf 0) ((weighed v.1).record 0).ring + 8192 < 16384 * (v.2 + 1) := by decide +kernel

theorem witness_candidate : class3.fullOn ≤ 800 ∧ (class3.fullOn : Int) - class3.hysteresis ≤ 760 ∧
    ¬(class3.fullOn ≤ 759 ∨ (class3.fullOn : Int) - class3.hysteresis ≤ 759) ∧ class3.nearOn ≤ 500 ∧
    (class3.nearOn : Int) - class3.hysteresis ≤ 460 ∧ ¬(class3.nearOn ≤ 459 ∨ (class3.nearOn : Int) - class3.hysteresis ≤ 459) := by decide

/-- A list that moves LOW up, one that moves FULL down, and one that moves NEAR neither way. -/
theorem witness_confirmation : 5 < 2 * 3 ∧
    (Band.low.rank < Band.near.rank ∧ 3 ≤ [Band.near, .near, .full, .low, .low].countP fun x => decide (Band.near.rank ≤ x.rank)) ∧
    (Band.near.rank < Band.full.rank ∧ 3 ≤ [Band.near, .near, .full, .low, .low].countP fun x => decide (x.rank ≤ Band.near.rank)) ∧
    (¬∃ b : Band, Band.near.rank < b.rank ∧ 3 ≤ [Band.full, .full, .low, .low].countP fun x => decide (b.rank ≤ x.rank)) ∧
    ¬∃ b : Band, b.rank < Band.near.rank ∧ 3 ≤ [Band.full, .full, .low, .low].countP fun x => decide (x.rank ≤ b.rank) := by
  refine ⟨by decide, by decide, by decide, ?_, ?_⟩ <;> (rintro ⟨b, h⟩; revert h; cases b <;> decide)

/-- A bin of class 2, with a curve that is 251 throughout, re-measures ON, and the stored value `h`. -/
def risen (h : Nat) (r : BinRecord) : State :=
  withBin { r with ring := { cells := Vector.replicate 16 h, head := 0, occupancy := 1 }, attempts := 1 }
    { base with stores := { base.stores with
      classes := base.stores.classes.set 2 { class3 with reMeasure := true, collectFloor := 251 }
      curves := base.stores.curves.set 0 { origin := 200, exponent := 3, points := Vector.replicate 33 251 } } }

theorem witness_rise : ((risen 100 active).record 0).visitMark = false ∧ 1 ≤ ((risen 100 active).record 0).ring.occupancy ∧
    Liveness.late ≠ .silent ∧ Liveness.late ≠ .recovering ∧
    ((risen 100 active).record 0).ring.cell 0 + ((risen 100 active).classOf 0).maxRise <
      curveFill (risen 100 active).stores.curves[((risen 100 active).classOf 0).curvePage] 500 ∧
    ((risen 100 active).classOf 0).reMeasure = true ∧ 1 ≤ ((risen 100 active).record 0).attempts ∧
    (∀ e ∈ (risen 100 active).downlink.queue, e.slot ≠ 0) ∧ (risen 100 active).downlink.queue.length < 32 := by decide +kernel

/-- A reading of this raw distance, TILT as given. -/
def reading (raw : Nat) (tilt : Option Bool) : Sample :=
  { lane := 0, rssi := -97, arrival := 5, filter := 0, identifier := 0x1001, sequence := 5, kind := .distMm, raw := raw, temperature := none,
    lid := none, tilt := tilt, restart := none, shatter := none }

/-- 150 and 2400 mm are the limits of class 2: 149 and 2401 fail, under either policy, and so do the raws 0 and 65535. -/
theorem witness_range : distanceOf (reading 149 none).kind (reading 149 none).raw none < ((risen 100 active).classOf 0).minDistance ∧
    ((risen 100 active).classOf 0).maxDistance < distanceOf (reading 2401 none).kind (reading 2401 none).raw none ∧
    (reading 0 none).raw = 0 ∧ (reading 65535 none).raw = 65535 ∧ (reading 149 none).tilt ≠ some true ∧
    (risen 100 active).mgmt.params.rangePolicy = .mark ∧
    (params (fun p => { p with rangePolicy := .drop }) (risen 100 active)).mgmt.params.rangePolicy = .drop ∧
    (reading 150 (some true)).tilt = some true ∧ rangeFails ((risen 100 active).classOf 0) 150 150 = false ∧
    rangeFails ((risen 100 active).classOf 0) 2400 2400 = false := by decide +kernel

theorem witness_collection : ((risen 100 { active with visitMark := true }).record 0).visitMark = true ∧
    (1 ≤ ((risen 551 active).record 0).ring.occupancy ∧
      curveFill (risen 551 active).stores.curves[((risen 551 active).classOf 0).curvePage] 500 + ((risen 551 active).classOf 0).collectDrop ≤
        ((risen 551 active).record 0).ring.cell 0 ∧
      curveFill (risen 551 active).stores.curves[((risen 551 active).classOf 0).curvePage] 500 ≤ ((risen 551 active).classOf 0).collectFloor) ∧
    ((risen 551 active).record 0).links = none := by decide +kernel

/-- A reading that is neither a collection nor a rise: the fill is 251 and so is h0. -/
theorem witness_stored : ((risen 251 active).record 0).visitMark = false ∧
    curveFill (risen 251 active).stores.curves[((risen 251 active).classOf 0).curvePage] 500 = 251 ∧
    ((risen 251 active).record 0).ring.cell 0 = 251 ∧ ((risen 251 active).classOf 0).collectDrop = 300 ∧
    ((risen 251 active).classOf 0).maxRise = 150 := by decide +kernel

/-- A bin whose class has re-measures ON or OFF, with this queue. -/
def wanting (on : Bool) (r : BinRecord) (q : List ReEntry) : State :=
  withBin r { base with
    stores := { base.stores with classes := base.stores.classes.set 2 { class3 with reMeasure := on } }
    downlink := { base.downlink with queue := q } }

/-- Not wanted, or OFF; no attempts left, at NORMAL and at SUSPECT; an entry standing; a full queue; and a place, with one attempt. -/
theorem witness_reMeasures :
    (((wanting true active []).record 0).pendingFlag = false ∧ ((wanting true { active with pendingFlag := true } []).record 0).pendingFlag = true ∧
      ((wanting false active []).classOf 0).reMeasure = false ∧ ((wanting true active []).classOf 0).reMeasure = true) ∧
    (∀ sensor ∈ [SensorState.normal, .suspect], ((wanting true { active with attempts := 0, sensor := sensor } []).record 0).attempts = 0 ∧
      ((wanting true { active with attempts := 0, sensor := sensor } []).record 0).sensor = sensor) ∧
    (∃ e ∈ (wanting true active [⟨0, 0x1001, 0, 9, .waiting⟩]).downlink.queue, e.slot = 0) ∧
    (∀ n ∈ [31, 32], (∀ e ∈ (wanting true active (List.replicate n ⟨1, 7, 0, 9, .waiting⟩)).downlink.queue, e.slot ≠ 0) ∧
      (wanting true active (List.replicate n ⟨1, 7, 0, 9, .waiting⟩)).downlink.queue.length = n) ∧
    1 ≤ ((wanting true { active with attempts := 1, lastArrival := some 5 } []).record 0).attempts ∧
    ((wanting true { active with attempts := 1, lastArrival := some 5 } []).record 0).lastArrival = some 5 := by decide +kernel

/-- Chapter 4, section 4.8: the changes of the latches and SHATTER, in their order, with HEAT SET at its threshold. -/
theorem test_heard_notices :
    let s := wanting true { active with tilt := true } []
    let s := { s with stores := { s.stores with classes := s.stores.classes.set 2 { class3 with heatThreshold := 60 } } }
    let t := s.heard 0 { reading 500 (some false) with lid := some true, shatter := some true, temperature := some 60 }
    (t.notices.queue.map fun n => n.notice.body) =
      [.event .lid .set none none none, .event .tilt .cleared none none none, .event .shatter .occurred none none none,
        .event .heat .set (some 60) none none] ∧
    (t.record 0).lid = true ∧ (t.record 0).tilt = false ∧ (t.record 0).heat = true := by decide +kernel

/-- The listed bin, FULL in bucket 50, is left where it is at 800, and moves at 1000 or in band NEAR; the FREE record is not listed. -/
theorem witness_reconciliation : VisitListSound listed ∧ (listed.record 0).links = none ∧
    (listed.record 8191).links = some { bucket := 50, position := 0 } ∧ (listed.record 8191).band = .full ∧ (50 : Bucket).val = 800 / 16 ∧
    (50 : Bucket).val ≠ 1000 / 16 ∧ Band.near ≠ Band.full ∧ 1000 ≤ 1000 := by
  refine ⟨witness_visitListSound, ?_⟩
  rw [listed_record, listed_record]; decide

/-- A notice, and a forwarded record. -/
def notice1 : QueuedNotice := { notice := { time := 0, slot := none, identifier := none, body := .lane 0 .normal .mute .quiet 0 0 }, holdAge := 5 }
def forward1 : ForwardRecord := { lane := 0, rssi := -97, arrival := 0, mark := .none, bytes := good4 }
/-- A state with `n` notices, one with `n` forwarded records. -/
def noticed (n : Nat) : State := { base with notices := { base.notices with queue := List.replicate n notice1 } }
def forwarding (n : Nat) : State := { base with egress := { base.egress with forward := List.replicate n forward1 } }

theorem witness_queues : (noticed 511).notices.queue.length < 512 ∧ 512 ≤ (noticed 512).notices.queue.length ∧
    (forwarding 15).egress.forward.length < 16 ∧ 16 ≤ (forwarding 16).egress.forward.length := by decide +kernel

/-! ### Witnesses: lanes and takes -/

theorem witness_arrival : (params (fun p => { p with laneEnable := p.laneEnable.set 3 false }) base).mgmt.params.laneEnable[3] = false ∧
    base.mgmt.params.laneEnable[3] = true ∧ (List.replicate 3 (0 : Byte)).length < 4 ∧ 64 < (List.replicate 65 (0 : Byte)).length := by decide

theorem witness_checked : base.mgmt.params.laneEnable[2] = true ∧ 2 ≤ (List.replicate 2 (7 : Byte)).length ∧
    (List.replicate 62 (7 : Byte)).length ≤ 62 ∧ ((waiting 2 (List.replicate 7 entry4) base).lanes[2]).fifo.length < 8 ∧
    8 ≤ ((waiting 2 (List.replicate 8 entry4) base).lanes[2]).fifo.length ∧ [(0 : Byte), 0].length = 2 ∧
    [(0 : Byte), 0] ≠ pack16 (crc [7, 7]).toNat ∧ base.mgmt.params.fcsPolicy = .drop ∧
    (params (fun p => { p with fcsPolicy := .forwardMarked }) base).mgmt.params.fcsPolicy = .forwardMarked := by decide +kernel

theorem witness_laneInterval : ((base.modLane 3 fun x => { x with announced := true }).lanes[3]).announced = true ∧
    (base.modLane 3 fun x => { x with announced := true }).mgmt.params.laneEnable[3] = true ∧
    (params (fun p => { p with laneEnable := p.laneEnable.set 3 false }) (base.modLane 3 fun x => { x with announced := true })).mgmt.params.laneEnable[3] =
      false := by decide

/-- Filter 0 matches every frame, with this action, and layout 0 reads identifier, sequence, distance and flags in that order. -/
def reporting (a : FilterAction) (s : State) : State :=
  { run s with classifier := { s.classifier with
      filters := s.classifier.filters.set 0 { Filter.initial with enable := true, signature := 0xFFFF, action := a }
      layouts := s.classifier.layouts.set 0
        { Layout.initial with seqOffset := 4, measureOffset := 6, flags := some 8, tilt := some 1, restart := some 0 } } }
/-- A bin report of identifier `id` with this sequence, of 500 mm. -/
def report (id sequence : Nat) : LaneFrame :=
  let body := pack32 id ++ pack16 sequence ++ pack16 500 ++ [0]
  { bytes := body ++ pack16 (crc body).toNat, rssi := -97, arrival := 5 }
/-- That report waiting alone on lane 3, which the pointer at 3 serves last. -/
def meets (a : FilterAction) (f : LaneFrame) (s : State) : State := waiting 3 [f] (reporting a s)
/-- The Sample of that report. -/
def heardOf (f : LaneFrame) (s : State) : Sample := (s.classifier.layouts[(0 : Index16)]).sample 3 f 0

theorem witness_takeOrder : (∀ m : Lane, m < 3 → ((waiting 3 [entry4] base).lanes[base.classifier.pointer + 1 + m]).fifo = []) ∧
    ((waiting 3 [entry4] base).lanes[base.classifier.pointer + 1 + 3]).fifo ≠ [] := by decide

theorem witness_forwards : Takes (waiting 3 [entry4] base) 3 entry4 ∧ base.mgmt.running = false ∧ Takes (run (waiting 3 [entry4] base)) 3 entry4 ∧
    (run base).mgmt.running = true ∧ base.classifier.matchingFilter good4 = none ∧
    ∀ a ∈ [FilterAction.forward, .discard, .binReport, .binReportAndForward],
      Takes (meets a entry4 base) 3 entry4 ∧ (meets a entry4 base).classifier.matchingFilter good4 = some 0 ∧
        ((meets a entry4 base).classifier.filters[(0 : Index16)]).action = a := by
  unfold Takes; decide +kernel

/-- A frame of ten bytes is one short of the layout's minimum length, and the identifiers 0 and FFFFFFFF hex are not valid. -/
theorem witness_lengthFailures :
    ((meets .binReport entry4 base).classifier.layouts[(0 : Index16)]).minLength = 11 ∧
      ((meets .binReport entry4 base).classifier.layouts[(0 : Index16)]).identifierOf (report 0 5).bytes = 0 ∧
      ((meets .binReport entry4 base).classifier.layouts[(0 : Index16)]).identifierOf (report 0xFFFFFFFF 5).bytes = 0xFFFFFFFF ∧
      ∀ id ∈ [1, 0xFFFFFFFE], (report id 5).bytes.length = 11 ∧
        ((meets .binReport entry4 base).classifier.layouts[(0 : Index16)]).identifierOf (report id 5).bytes ≠ 0 ∧
        ((meets .binReport entry4 base).classifier.layouts[(0 : Index16)]).identifierOf (report id 5).bytes ≠ 0xFFFFFFFF ∧
        Takes (meets .binReport (report id 5) base) 3 (report id 5) := by
  unfold Takes; decide +kernel

/-- The same report with RESTART SET, as the flag byte's bit 0 says. -/
def restarted (id sequence : Nat) : LaneFrame :=
  let body := pack32 id ++ pack16 sequence ++ pack16 500 ++ [1]
  { bytes := body ++ pack16 (crc body).toNat, rssi := -97, arrival := 5 }
/-- A report of the bin in slot 0, whose record is given, or of no bin. -/
def fromBin (r : BinRecord) : State := meets .binReport (report 0x1001 5) (withBin r base)
def fromNone : State := meets .binReport (report 0x1001 5) base
def sample5 : Sample := heardOf (report 0x1001 5) fromNone

/-- Under either action that reports, a report of no bin, and one of a bin, are Samples. -/
theorem witness_reports : ∀ a ∈ [FilterAction.binReport, .binReportAndForward],
    Reports (meets a (report 0x1001 5) base) 3 (report 0x1001 5) 0 sample5 ∧
    ReportsFirst (meets a (report 0x1001 5) (withBin active base)) 3 (report 0x1001 5) 0 sample5 := by
  unfold ReportsFirst Reports Takes; decide +kernel

theorem witness_laterCopy :
    Reports { fromNone with copies := [⟨0x1001, 5, 0⟩] } 3 (report 0x1001 5) 0 sample5 ∧
    (∃ e ∈ [CopyEntry.mk 0x1001 5 0], e.identifier = sample5.identifier ∧ e.sequence = sample5.sequence) ∧
    fromNone.lookup sample5.identifier = none ∧
    Reports { fromBin { active with lastSequence := some 5, bestRssi := some (-97) } with copies := [⟨0x1001, 5, 0⟩] } 3 (report 0x1001 5) 0 sample5 ∧
    (fromBin { active with lastSequence := some 5, bestRssi := some (-97) }).lookup sample5.identifier = some 0 ∧
    ((fromBin { active with lastSequence := some 5, bestRssi := some (-97) }).record 0).admin = .active ∧
    ((fromBin { active with lastSequence := some 5, bestRssi := some (-97) }).record 0).lastSequence = some sample5.sequence ∧
    ((fromBin { active with lastSequence := some 4 }).record 0).lastSequence ≠ some sample5.sequence := by
  unfold Reports Takes; decide +kernel

/-- The Discovery List with `n` entries, of identifiers 1 to n. -/
def discovered (n : Nat) : State :=
  { fromNone with bins := { fromNone.bins with discovery := (List.range n).map fun k => ⟨BitVec.ofNat 32 (k + 1), 0, 0, 1, 0⟩ } }

theorem witness_unknown : (∀ n ∈ [63, 64], ReportsFirst (discovered n) 3 (report 0x1001 5) 0 sample5 ∧
      (discovered n).lookup sample5.identifier = none ∧ (∀ e ∈ (discovered n).bins.discovery, e.identifier ≠ sample5.identifier) ∧
      (discovered n).bins.discovery.length = n) ∧
    ∃ e ∈ (discovered 64).bins.discovery, e.identifier = (heardOf (report 64 5) fromNone).identifier := by
  unfold ReportsFirst Reports Takes; decide +kernel

theorem witness_notApplied :
    (∀ r ∈ [{ active with admin := .suspended }, { active with profileFilter := 1, mismatchRun := 2 }, { active with lastSequence := some 5 },
        { active with lastSequence := some 32773 }, { active with lastSequence := some 5, identity := .mismatched, matchRun := 2 },
        { active with lastSequence := some 32773, identity := .mismatched, matchRun := 2 }],
      ReportsFirst (fromBin r) 3 (report 0x1001 5) 0 sample5 ∧ (fromBin r).lookup sample5.identifier = some 0) ∧
    (0 : Index16) ≠ 1 ∧ ((fromBin active).record 0).identity = .matched ∧ sample5.sequence = 5 ∧
    32768 ≤ (sample5.sequence - 32773#16).toNat ∧ sample5.restart ≠ some true := by
  unfold ReportsFirst Reports Takes; decide +kernel

/-- A first report, a forward gap of 1 and one of 32767. -/
theorem witness_accepted :
    (∀ r ∈ [active, { active with lastSequence := some 4 }, { active with lastSequence := some 32774 }],
      ReportsFirst (fromBin r) 3 (report 0x1001 5) 0 sample5 ∧ (fromBin r).lookup sample5.identifier = some 0 ∧
        ((fromBin r).record 0).admin = .active ∧ ((fromBin r).record 0).profileFilter = 0) ∧
    (sample5.sequence - 4#16).toNat = 0 + 1 ∧ (sample5.sequence - 32774#16).toNat = 32766 + 1 ∧ 32766 < 32767 := by
  unfold ReportsFirst Reports Takes; decide +kernel

/-- A report with RESTART SET of a bin whose last sequence is 32773. -/
def restarting : State := meets .binReport (restarted 0x1001 5) (withBin { active with lastSequence := some 32773 } base)
def sampleR : Sample := heardOf (restarted 0x1001 5) fromNone

/-- A sensor restart, at the backward gap nearest to a forward one; and MISMATCHED records one and two matches from their return. -/
theorem witness_restart :
    (ReportsFirst restarting 3 (restarted 0x1001 5) 0 sampleR ∧ restarting.lookup sampleR.identifier = some 0 ∧
      (restarting.record 0).admin = .active ∧ (restarting.record 0).profileFilter = 0 ∧ (restarting.record 0).lastSequence = some 32773 ∧
      32768 ≤ (sampleR.sequence - 32773#16).toNat ∧ sampleR.restart = some true) ∧
    ∀ n ∈ [1, 2], ((fromBin { active with identity := .mismatched, matchRun := n }).record 0).identity = .mismatched ∧
      min 3 (((fromBin { active with identity := .mismatched, matchRun := n }).record 0).matchRun + 1) = n + 1 := by
  unfold ReportsFirst Reports Takes; decide +kernel

/-- Ages 2147483647 and 2147483648, and a full set. -/
theorem witness_copies :
    CopiesDistinct { base with copies := [⟨1, 1, 0⟩] ++ ⟨1, 2, 0x80000001⟩ :: [⟨1, 3, 0⟩] } ∧ (base.mgmt.ms - 0x80000001#32).toNat < 2147483648 ∧
    2147483648 ≤ (base.mgmt.ms - 0x80000000#32).toNat ∧
    Reports { fromNone with copies := (List.range 128).map fun k => ⟨7, BitVec.ofNat 16 k, 0⟩ } 3 (report 0x1001 5) 0 sample5 ∧
    (∀ e ∈ (List.range 128).map fun k => CopyEntry.mk 7 (BitVec.ofNat 16 k) 0,
      ¬(e.identifier = sample5.identifier ∧ e.sequence = sample5.sequence)) ∧
    ((List.range 128).map fun k => CopyEntry.mk 7 (BitVec.ofNat 16 k) 0).length = 128 := by
  unfold CopiesDistinct Reports Takes; decide +kernel

/-! ### Witnesses: the downlink and the ingress -/

/-- The one entry of the queue is that of the listed bin. -/
def queued (e : ReEntry) : State := { listed with downlink := { listed.downlink with queue := [e] } }

theorem witness_queuedSound (st : EntryState) (opens closes : Word32) : QueueSound (queued ⟨8191, 0xFFFFFFFE, opens, closes, st⟩) := by
  refine ⟨by simp [queued], fun e h => ?_⟩
  simp only [queued, List.mem_singleton] at h
  subst h
  show (listed.record 8191).admin = _ ∧ (listed.record 8191).identifier = _ ∧ 1 ≤ (listed.record 8191).attempts
  rw [listed_record, if_pos rfl]
  exact ⟨rfl, rfl, by decide⟩

/-- The Millisecond Count is 0: an open or close time of 0 or 80000001 hex has come, one of 1 or 80000000 hex has not. -/
theorem witness_entries :
    ((0#32 - 0#32).toNat < 2147483648 ∧ (0#32 - 0x80000001#32).toNat < 2147483648) ∧
    (2147483648 ≤ (0#32 - 1#32).toNat ∧ 2147483648 ≤ (0#32 - 0x80000000#32).toNat) ∧
    ∀ e : ReEntry, (queued e).downlink.queue = [] ++ e :: [] ∧ (queued e).mgmt.ms = 0 :=
  ⟨by decide +kernel, by decide +kernel, fun _ => ⟨rfl, rfl⟩⟩

/-- An entry just opened and not yet closed, at an IDLE lane; and none open before a pass-through frame. -/
theorem witness_transmit : (queued ⟨8191, 0xFFFFFFFE, 0, 1, .due⟩).downlink.tx = none ∧
    (EntryState.due = .due ∧ 2147483648 ≤ (0#32 - 1#32).toNat) ∧
    ({ base with downlink := { base.downlink with frames := [good4] } } : State).downlink.tx = none ∧
    ({ base with downlink := { base.downlink with frames := [good4] } } : State).downlink.frames = good4 :: [] ∧
    ∀ x ∈ ({ base with downlink := { base.downlink with frames := [good4] } } : State).downlink.queue,
      ¬(x.state = .due ∧ 2147483648 ≤ (base.mgmt.ms - x.closes).toNat) := by decide +kernel

theorem witness_answers : base.downlink.tx = none ∧ sending.downlink.tx = some ⟨.passThrough, 0, good4⟩ ∧
    ¬((3999#32 - (0 + 4000#32)).toNat < 2147483648) ∧ (4000#32 - (0 + 4000#32)).toNat < 2147483648 ∧
    ({ listed with downlink := { listed.downlink with tx := some ⟨.reMeasure 8191 0xFFFFFFFE, 0, []⟩ } } : State).downlink.tx =
      some ⟨.reMeasure 8191 0xFFFFFFFE, 0, []⟩ ∧
    ((listed.record 8191).admin = .active ∧ (listed.record 8191).identifier = 0xFFFFFFFE) ∧
    ¬((base.record 8191).admin = .active ∧ (base.record 8191).identifier = 0xFFFFFFFE) := by
  rw [listed_record]; decide +kernel

/-- The lengths at which the clauses meet. -/
theorem witness_ingress : (List.replicate 1024 (0 : Byte)).length ≤ 1024 ∧ pack16 (7#16).toNat ++ [0x01] ++ [] = [0, 7, 1] ∧
    (List.replicate 2 (0 : Byte)).length < 3 ∧ (4 ≤ (List.replicate 4 (0 : Byte)).length ∧ (List.replicate 64 (0 : Byte)).length ≤ 64) ∧
    (List.replicate 3 (0 : Byte)).length < 4 ∧ 64 < (List.replicate 65 (0 : Byte)).length ∧
    (0x03 : Byte) ≠ 0x01 ∧ (0x03 : Byte) ≠ 0x02 ∧
    ({ base with mgmt := { base.mgmt with requests := List.replicate 3 ⟨7, 1, []⟩ } } : State).mgmt.requests.length < 4 ∧
    4 ≤ ({ base with mgmt := { base.mgmt with requests := List.replicate 4 ⟨7, 1, []⟩ } } : State).mgmt.requests.length ∧
    ({ base with downlink := { base.downlink with frames := List.replicate 7 good4 } } : State).downlink.frames.length < 8 ∧
    8 ≤ ({ base with downlink := { base.downlink with frames := List.replicate 8 good4 } } : State).downlink.frames.length ∧
    (List.replicate 4 (0 : Byte)).length < 5 ∧ 1029 < (List.replicate 1030 (0 : Byte)).length ∧
    [(0 : Byte), 1] ≠ pack16 ([] : List Byte).length ∧ [(0 : Byte), 0] ≠ pack16 (crc ([0x01, 0, 0] ++ [])).toNat := by decide +kernel

/-! ### Witnesses: requests

`witness_asks` is met at every state with a place for the response, so each witness below gives the state, the parameters, and what else its
statement asks. -/

theorem witness_asks (code : Byte) (ps : List Byte) (s : State) (h : s.egress.responses.length < 4) :
    Requests (ask code ps s) code ⟨7, code, ps⟩ := ⟨rfl, rfl, h⟩

/-- A state with `n` responses waiting. -/
def answering (n : Nat) : State := { base with egress := { base.egress with responses := List.replicate n ⟨7, 1, .ok, []⟩ } }

theorem witness_refusals : (∀ code ∈ [(0x07 : Byte), 0x00, 0xFF], code ∉ commandCodes ∧ (ask code [] (answering 3)).egress.responses.length < 4) ∧
    4 ≤ (answering 4).egress.responses.length ∧
    (∀ code ∈ commandCodes, Requests (ask code [0, 0] (answering 3)) code ⟨7, code, [0, 0]⟩) ∧
    (∀ n ∈ [0, 4, 9, 5, 6, 38, 1, 70, 12, 20, 3], [(0 : Byte), 0].length ≠ n) ∧
    [(0 : Byte), 0].length ≠ 1 + 3 * ([(0 : Byte), 0].getD 0 0).toNat ∧ [(0 : Byte)].length < 2 ∧
    [(0 : Byte), 1].length ≠ 2 + 2 * ([(0 : Byte), 1].getD 1 0).toNat := by
  unfold Requests; decide

theorem witness_part : (∀ code ∈ [(0x01 : Byte), 0x02, 0x03, 0x04, 0x35], Requests (ask code [] (run base)) code ⟨7, code, []⟩ ∧
      Requests (ask code [] base) code ⟨7, code, []⟩) ∧
    (ask 0x02 [] (run base)).mgmt.running = true ∧ (ask 0x02 [] base).mgmt.running = false ∧
    (∃ e ∈ (ask 0x03 [] listed).downlink.queue, e.slot = 8191) ∧ (∀ e ∈ (ask 0x03 [] listed).downlink.queue, e.slot ≠ 0) ∧
    Requests (ask 0x05 (pack32 (0xFFFFFFFF#32).toNat) base) 0x05 ⟨7, 0x05, pack32 (0xFFFFFFFF#32).toNat⟩ := by
  unfold Requests; decide +kernel

/-- The parameter bytes of a SET_PARAMS. -/
def pairBytes (pairs : List (Nat × Nat)) : List Byte := pack8 pairs.length ++ (pairs.map fun v => pack8 v.1 ++ pack16 v.2).flatten

/-- One pair, seventeen, none, eighteen, parameters 0 and 18, and a switch set to 2. -/
theorem witness_setParams :
    (∀ pairs ∈ [[(17, 65535)], List.replicate 17 (1, 1), [], List.replicate 18 (1, 1), [(0, 0)], [(18, 0)], [(13, 2)]],
      Requests (ask 0x06 (pairBytes pairs) base) 0x06 ⟨7, 0x06, pairBytes pairs⟩ ∧ pairs.length < 256 ∧ ∀ v ∈ pairs, v.1 < 256 ∧ v.2 < 65536) ∧
    ∀ v ∈ ([(17, 65535), (1, 1)] : List (Nat × Nat)), 1 ≤ v.1 ∧ v.1 ≤ 17 ∧ (v.1 ∈ [1, 2, 3, 4, 5, 10, 11, 13] → v.2 ≤ 1) := by
  unfold Requests; decide +kernel

/-- The parameter bytes of a PROVISION. -/
def placeBytes (id : Word32) (cls pf : Nat) (given : Option Slot) : List Byte :=
  pack32 id.toNat ++ pack8 cls ++ pack8 pf ++ packOpt 2 (fun k => pack16 k.val) given

/-- A slot given, and none given with slot 0 taken, so that slot 1 is the lowest free one and the second bin takes way 1. -/
theorem witness_provision :
    Requests (ask 0x10 (placeBytes 1 2 15 (some 8191)) loaded) 0x10 ⟨7, 0x10, placeBytes 1 2 15 (some 8191)⟩ ∧
    (1#32 ≠ 0 ∧ 1#32 ≠ 0xFFFFFFFF) ∧ (loaded.classDesc 2).loaded = true ∧ loaded.lookup 1 = none ∧ (loaded.record 8191).admin = .free ∧
    (loaded.bins.directory[wayIndex 1 0]).valid = false ∧ (∀ v : Fin 4, v < 0 → (loaded.bins.directory[wayIndex 1 v]).valid = true) ∧
    (withBin active loaded).lookup 0x2002 = none ∧ ((withBin active loaded).record 1).admin = .free ∧
    (∀ j : Slot, j < 1 → ((withBin active loaded).record j).admin ≠ .free) ∧
    ((withBin active loaded).bins.directory[wayIndex 0x2002 1]).valid = false ∧
    (∀ v : Fin 4, v < 1 → ((withBin active loaded).bins.directory[wayIndex 0x2002 v]).valid = true) := by
  refine ⟨⟨rfl, rfl, by decide⟩, by decide, by decide, by decide +kernel, by decide +kernel, by decide +kernel, by decide, by decide +kernel,
    by decide +kernel, fun j h => ?_, by decide +kernel, by decide +kernel⟩
  have e : j = 0 := by apply Fin.ext; have : j.val < 1 := h; simpa using this
  subst e; decide +kernel

/-- The refusals in their order: bad codes, a class not loaded, an identifier known, a slot taken, a full row. -/
theorem witness_provisionRefused :
    (0#32 = 0 ∧ 0xFFFFFFFF#32 = 0xFFFFFFFF ∧ 15 < 16 ∧ 1 < 2 ∧ 8191 < 8192) ∧ (loaded.classDesc 3).loaded = false ∧
    (withBin active loaded).lookup 0x1001 = some 0 ∧ ((withBin active loaded).record 0).admin ≠ .free ∧
    (withBin active loaded).lookup 5 = none ∧
    let full := ((((loaded.setWay 0 ⟨true, 0x1001, 0⟩).setWay 1 ⟨true, 0x2002, 1⟩).setWay 2 ⟨true, 0x3003, 2⟩).setWay 3 ⟨true, 0x4004, 3⟩)
    full.lookup 0x5005 = none ∧ (full.record 8191).admin = .free ∧ ∀ w : Fin 4, (full.bins.directory[wayIndex 0x5005 w]).valid = true := by
  decide +kernel

/-- The sound state with the listed bin alone stays sound with a request waiting. -/
theorem witness_askedSound (code : Byte) (ps : List Byte) : IdentifiersSound (ask code ps listed) ∧ VisitListSound (ask code ps listed) :=
  have i := witness_identifiersSound
  have v := witness_visitListSound
  ⟨⟨i.oneSlot, i.wayNames, i.oneWay, i.found, i.discovery⟩, v.membership, v.place, v.once, v.counts⟩

/-- Both keys name the listed bin, and other ones name none. -/
theorem witness_names (code : Byte) (ps : List Byte) :
    Names (ask code ps listed) (.bySlot 8191) 8191 ∧ Names (ask code ps listed) (.byIdentifier 0xFFFFFFFE) 8191 ∧
    NamesNone (ask code ps base) (.bySlot 8191) ∧ NamesNone (ask code ps base) (.byIdentifier 0) := by
  have r : ((ask code ps listed).record 8191).admin = .active := by
    show (listed.record 8191).admin = _
    rw [listed_record]; decide
  exact ⟨⟨rfl, by rw [r]; decide⟩, listed_lookup, by show (base.record 8191).admin = _; decide +kernel,
    by show base.lookup 0 = _; decide +kernel⟩

/-- The four requests about that bin, and the states that their clauses name: it is ACTIVE; the bin in slot 0 of the other is SUSPENDED. -/
theorem witness_binRequests :
    (∀ key ∈ [BinKey.bySlot 8191, .byIdentifier 0xFFFFFFFE], ∀ code ∈ [(0x11 : Byte), 0x13],
      Requests (ask code (keyBytes key) listed) code ⟨7, code, keyBytes key⟩) ∧
    (∀ target ∈ [0, 1, 2, 255], Requests (ask 0x12 (keyBytes (.bySlot 8191) ++ pack8 target) listed) 0x12
      ⟨7, 0x12, keyBytes (.bySlot 8191) ++ pack8 target⟩ ∧ target < 256) ∧
    (∀ clear ∈ [true, false], Requests (ask 0x30 (keyBytes (.bySlot 8191) ++ packFlag clear) listed) 0x30
      ⟨7, 0x30, keyBytes (.bySlot 8191) ++ packFlag clear⟩) ∧
    (listed.record 8191).admin = .active ∧
    Names (withBin { active with admin := .suspended } base) (.byIdentifier 0x1001) 0 ∧
    ((withBin { active with admin := .suspended } base).record 0).admin = .suspended := by
  refine ⟨?_, ?_, ?_, ?_, ?_, ?_⟩
  · unfold Requests; decide
  · unfold Requests; decide
  · unfold Requests; decide
  · rw [listed_record]; decide
  · show (withBin { active with admin := .suspended } base).lookup 0x1001 = _; decide +kernel
  · decide +kernel

/-- A bad selector, a slot of 8192, and a bad clear option. -/
theorem witness_outOfRange :
    (∀ row ∈ ([(0x11, 5), (0x13, 5), (0x12, 6), (0x30, 6)] : List (Byte × Nat)), ∀ ps ∈ [[(2 : Byte), 0, 0, 0, 0, 0], [1, 0, 0, 0x20, 0, 0]],
      Requests (ask row.1 (ps.take row.2) base) row.1 ⟨7, row.1, ps.take row.2⟩ ∧ (ps.take row.2).length = row.2) ∧
    Requests (ask 0x30 [0, 0, 0, 0, 1, 2] base) 0x30 ⟨7, 0x30, [0, 0, 0, 0, 1, 2]⟩ ∧ Requests (ask 0x33 [2] base) 0x33 ⟨7, 0x33, [2]⟩ ∧
    Requests (ask 0x34 [0, 0, 2] base) 0x34 ⟨7, 0x34, [0, 0, 2]⟩ ∧
    Requests (ask 0x24 (filterBytes 0 { Filter.initial with offset := 64 }) base) 0x24
      ⟨7, 0x24, filterBytes 0 { Filter.initial with offset := 64 }⟩ ∧
    Requests (ask 0x25 (layoutBytes 0 { Layout.initial with lid := some 8 }) base) 0x25
      ⟨7, 0x25, layoutBytes 0 { Layout.initial with lid := some 8 }⟩ ∧
    (layoutBytes 0 { Layout.initial with lid := some 8 }).length = 20 ∧
    Requests (ask 0x20 (pack8 0 ++ ({ class3 with nC := 17 } : ClassDesc).packFields) base) 0x20
      ⟨7, 0x20, pack8 0 ++ ({ class3 with nC := 17 } : ClassDesc).packFields⟩ ∧
    (pack8 0 ++ ({ class3 with nC := 17 } : ClassDesc).packFields).getD 17 0 = 17 ∧
    (pack8 0 ++ ({ class3 with nC := 17 } : ClassDesc).packFields).length = 38 := by
  unfold Requests; decide +kernel

/-! ### Witnesses: tables and reads -/

/-- Relations at their edges: a kernel up to position 127, and one beyond it. -/
theorem witness_class :
    (∀ c ∈ [class3, { class3 with kernelStart := 124 }, { class3 with kernelStart := 125 }, ClassDesc.initial], c.inRange = true) ∧
    ({ class3 with kernelStart := 124 } : ClassDesc).related = true ∧ ({ class3 with kernelStart := 125 } : ClassDesc).related = false ∧
    (∀ n ∈ [0, 15, 16, 255], Requests (ask 0x20 (pack8 n ++ class3.packFields) base) 0x20 ⟨7, 0x20, pack8 n ++ class3.packFields⟩ ∧
      Requests (ask 0x21 (pack8 n) base) 0x21 ⟨7, 0x21, pack8 n⟩ ∧ n < 256) ∧
    base.classDesc 15 = ClassDesc.initial := by
  unfold Requests; decide +kernel

theorem witness_curveAndKernel :
    (∀ v ∈ [(15, 8191, 3, 1000), (0, 0, 8, 1001), (16, 8191, 3, 0), (0, 8192, 3, 0), (0, 0, 2, 0), (0, 0, 9, 65535)],
      let ps := pack8 v.1 ++ pack16 v.2.1 ++ pack8 v.2.2.1 ++ ((List.replicate 33 v.2.2.2).map pack16).flatten
      Requests (ask 0x22 ps base) 0x22 ⟨7, 0x22, ps⟩ ∧ v.1 < 256 ∧ v.2.1 < 65536 ∧ v.2.2.1 < 256 ∧ (List.replicate 33 v.2.2.2).length = 33) ∧
    ∀ v ∈ [(127, 1), (96, 32), (0, 0), (0, 33), (128, 1), (97, 32)],
      let l := List.replicate v.2 (-32768 : Int)
      let ps := pack8 v.1 ++ pack8 l.length ++ (l.map packInt16).flatten
      Requests (ask 0x23 ps base) 0x23 ⟨7, 0x23, ps⟩ ∧ l.length < 256 ∧ ∀ c ∈ l, -32768 ≤ c ∧ c ≤ 32767 := by
  unfold Requests; decide +kernel

/-- Filters 12 to 14 joined to their successors: a cascade at 11 makes a chain of five. -/
def cascaded : State :=
  let joined : Filter := { Filter.initial with cascade := true }
  { base with classifier := { base.classifier with filters := ((base.classifier.filters.set 12 joined).set 13 joined).set 14 joined } }

theorem witness_filterAndLayout :
    (∀ n ∈ [0, 11, 15, 16, 255], ∀ f ∈ [{ Filter.initial with offset := 63 }, { Filter.initial with cascade := true, offset := 64 }],
      Requests (ask 0x24 (filterBytes n f) cascaded) 0x24 ⟨7, 0x24, filterBytes n f⟩ ∧ f.offset < 256) ∧
    (∀ h : Index16, (cascaded.classifier.setFilter 15 { Filter.initial with offset := 63 }).isHead h.val = true →
      ((cascaded.classifier.setFilter 15 { Filter.initial with offset := 63 }).chain h.val).length ≤ 4) ∧
    (¬∀ h : Index16, (cascaded.classifier.setFilter 11 { Filter.initial with cascade := true }).isHead h.val = true →
      ((cascaded.classifier.setFilter 11 { Filter.initial with cascade := true }).chain h.val).length ≤ 4) ∧
    ∀ v ∈ [(58, 61), (59, 61), (58, 62)],
      let y := { Layout.initial with idOffset := v.1, flags := some v.2, lid := some 7 }
      (∀ n ∈ [0, 15, 16, 255], Requests (ask 0x25 (layoutBytes n y) base) 0x25 ⟨7, 0x25, layoutBytes n y⟩) ∧
      (y.idOffset ≤ 63 ∧ y.seqOffset ≤ 63 ∧ y.measureOffset ≤ 63 ∧ v.2 ≤ 63 ∧ 7 ≤ 7) ∧
      ((v.1 + 4 + 2 ≤ 64 ∧ v.2 + 1 + 2 ≤ 64) ∨ 64 < v.1 + 4 + 2 ∨ 64 < v.2 + 1 + 2) := by
  unfold Requests; decide +kernel

theorem witness_reads :
    (∀ v ∈ [(8191, 1), (8191, 40), (0, 40), (8192, 1), (0, 0), (0, 41)],
      Requests (ask 0x31 (pack16 v.1 ++ pack8 v.2) base) 0x31 ⟨7, 0x31, pack16 v.1 ++ pack8 v.2⟩) ∧
    (∀ v ∈ [(0, 0, 1), (1, 8191, 24), (2, 0, 24), (3, 0, 1), (2, 8192, 1), (2, 0, 0), (2, 0, 25)],
      Requests (ask 0x32 (pack8 v.1 ++ pack16 v.2.1 ++ pack8 v.2.2) listed) 0x32 ⟨7, 0x32, pack8 v.1 ++ pack16 v.2.1 ++ pack8 v.2.2⟩) ∧
    (∀ clear ∈ [true, false], Requests (ask 0x33 (packFlag clear) base) 0x33 ⟨7, 0x33, packFlag clear⟩) ∧
    (∀ n ∈ [0, 8191, 8192, 8199, 8200], ∀ clear ∈ [true, false],
      Requests (ask 0x34 (pack16 n ++ packFlag clear) base) 0x34 ⟨7, 0x34, pack16 n ++ packFlag clear⟩) ∧
    (base.record 8191).admin = .free ∧ groupOf 8192 = some .lane ∧ groupOf 8199 = some .interval ∧ groupOf 0 = some (.bin 0) ∧
    ((withBin active base).record 0).admin ≠ .free ∧ (listed.visits.full.toList.reverse.flatten = [8191]) := by
  unfold Requests; decide +kernel

/-! ### Witnesses: time and egress -/

/-- An interval timer, a pass timer, a pass position and an announcement of lane 3, as given. -/
def timed (interval : Nat) (pass : Option Nat) (position : Option Slot) (announced : Bool) : State :=
  ({ base with stats := { base.stats with timer := interval }, sweep := { base.sweep with timer := pass, position := position } } :
    State).modLane 3 fun x => { x with announced := announced }

/-- Advances before and at the two timers' ends, with no pass and with one; and, not settled, a lane's announcement and a pass with slots
left at P. -/
theorem witness_secondAdvance :
    (∀ v ∈ [(58, none), (59, none), (0, some 58), (0, some 59)], (timed v.1 v.2 none false).settled = true) ∧
    (timed 0 (some 58) (some 8191) false).settled = true ∧ 58 + 1 < base.mgmt.params.interval ∧ base.mgmt.params.interval ≤ 59 + 1 ∧
    58 + 1 < base.sweep.period ∧ base.sweep.period ≤ 59 + 1 ∧ (timed 59 none none true).settled = false ∧
    (timed 0 (some 59) (some 8191) false).settled = false := by decide

/-- The advance that ends an interval and the one that starts a pass; one second before each; and a stopped pass timer. -/
theorem witness_starts :
    ((timed 59 none none false).settled = true ∧ (timed 59 none none false).mgmt.params.interval ≤ (timed 59 none none false).stats.timer + 1) ∧
    (timed 58 none none false).stats.timer + 1 < (timed 58 none none false).mgmt.params.interval ∧
    ((timed 0 (some 59) none false).settled = true ∧ (timed 0 (some 59) none false).sweep.timer = some 59 ∧
      (timed 0 (some 59) none false).sweep.period ≤ 59 + 1) ∧
    58 + 1 < (timed 0 (some 58) none false).sweep.period ∧ (timed 0 none none false).sweep.timer = none := by decide

/-- Slot 8191 visited with the listed bin, and slot 0 of a bin last heard at 0, at seconds that make it late and silent, with class 2's late
notices OFF and ON. -/
def visiting (secs : Word32) (notice : Bool) : State :=
  withBin { active with liveness := .reporting }
    { base with
      stores := { base.stores with classes := base.stores.classes.set 2 { class3 with lateNotice := notice } }
      sweep := { base.sweep with position := some 0 }, mgmt := { base.mgmt with secs := secs } }

theorem witness_sweep : ({ listed with sweep := { listed.sweep with position := some 8191 } } : State).sweep.position = some 8191 ∧
    ((run base).record 8191).admin ≠ .active ∧
    ∀ v ∈ [((1799 : Word32), 1), (1800, 2), (3599, 3), (3600, 4)], ∀ notice ∈ [true, false],
      (visiting v.1 notice).sweep.position = some 0 ∧ ((visiting v.1 notice).record 0).admin = .active ∧
      ((visiting v.1 notice).record 0).liveness = .reporting ∧ ((visiting v.1 notice).classOf 0).lateNotice = notice ∧
      min 63 (((visiting v.1 notice).mgmt.secs - ((visiting v.1 notice).record 0).lastHeard).toNat /
        ((visiting v.1 notice).classOf 0).reportInterval) = v.2 ∧
      ((visiting v.1 notice).classOf 0).lateCount = 2 ∧ ((visiting v.1 notice).classOf 0).silentCount = 4 := by
  decide +kernel

theorem witness_arrivals :
    (∀ live ∈ [Liveness.awaiting, .reporting, .late, .silent, .recovering], ∀ n ∈ [1, 2],
      let s := withBin { active with liveness := live, recovery := 0 }
        { base with stores := { base.stores with classes := base.stores.classes.set 2 { class3 with recoverCount := n, lateNotice := n == 2 } } }
      (s.record 0).liveness = live ∧ (s.classOf 0).recoverCount = n ∧ (s.classOf 0).lateNotice = (n == 2)) := by decide +kernel

/-- Readiness by 20 notices, by the hold time, and by a flush. -/
theorem witness_digest : base.egress.link = none ∧ base.egress.responses = [] ∧ base.egress.forward = [] ∧
    (noticed 20).notices.queue.length = 20 ∧ base.mgmt.params.hold ≤ notice1.holdAge ∧ (noticed 1).notices.queue.head? = some notice1 ∧
    ({ base with notices := { base.notices with flushPending := true } } : State).notices.flushPending = true ∧
    (forwarding 16).egress.starvation < (forwarding 16).mgmt.params.starvationLimit := by decide

/-- A forwarded record waiting, passed over `n` times. -/
def starved (n : Nat) (responses : List Response) : State :=
  { base with egress := { base.egress with forward := [forward1], starvation := n, responses := responses } }

/-- Forced and not forced, ready and not ready, busy and not busy. -/
theorem witness_egress :
    ((starved 8 []).egress.forward = forward1 :: [] ∧ (starved 8 []).egress.link = none ∧
      (starved 8 []).mgmt.params.starvationLimit ≤ (starved 8 []).egress.starvation) ∧
    ((starved 7 [⟨7, 1, .ok, []⟩]).egress.responses = ⟨7, 1, .ok, []⟩ :: [] ∧ (starved 7 []).egress.link = none ∧
      ¬(starved 7 []).mgmt.params.starvationLimit ≤ (starved 7 []).egress.starvation) ∧
    ({ base with egress := { base.egress with link := some [] } } : State).egress.link ≠ none ∧
    ¬(20 ≤ (noticed 19).notices.queue.length) ∧ base.notices.flushPending = false := by decide +kernel

end Sys2Proof.Tests
end

/-! PROOF. The take: the lane served, and what the frame's way through the classifier, the Copy Merger and the Bin Processor leaves alone. -/

namespace Sys2Proof.Machine

open Sys2Proof.Safety

/-! ### The frame of a take -/

/-- From `s` to `t` no receive lane, classifier table, management register, store or sweep register has moved: what a frame keeps on its
way once it has left its lane. -/
structure ClassifyFrame (s t : State) : Prop where
  lanes : t.lanes = s.lanes
  classifier : t.classifier = s.classifier
  mgmt : t.mgmt = s.mgmt
  stores : t.stores = s.stores
  sweep : t.sweep = s.sweep

theorem ClassifyFrame.refl (s : State) : ClassifyFrame s s := ⟨rfl, rfl, rfl, rfl, rfl⟩

theorem ClassifyFrame.trans {s t u : State} (a : ClassifyFrame s t) (b : ClassifyFrame t u) : ClassifyFrame s u :=
  ⟨b.lanes.trans a.lanes, b.classifier.trans a.classifier, b.mgmt.trans a.mgmt, b.stores.trans a.stores, b.sweep.trans a.sweep⟩

/-- A choice between two ways keeps the frame when both do. -/
theorem ClassifyFrame.ite {p : Prop} [Decidable p] {s t u : State} (a : ClassifyFrame s t) (b : ClassifyFrame s u) :
    ClassifyFrame s (if p then t else u) := by
  split
  · exact a
  · exact b

/-- The work at a Bin Record moves nothing of a take's frame. -/
theorem WorkFrame.classifyFrame {s t : State} (h : WorkFrame s t) : ClassifyFrame s t :=
  ⟨h.lanes, h.classifier, h.mgmt, h.stores, h.sweep⟩

/-! ### Shared updates -/

theorem State.modCounters_classifyFrame (s : State) (f : Counters → Counters) : ClassifyFrame s (s.modCounters f) :=
  (s.modCounters_frame f).classifyFrame

theorem State.copies_classifyFrame (s : State) (q : List CopyEntry) : ClassifyFrame s { s with copies := q } :=
  ⟨rfl, rfl, rfl, rfl, rfl⟩

theorem State.discovery_classifyFrame (s : State) (d : List DiscoveryEntry) :
    ClassifyFrame s { s with bins := { s.bins with discovery := d } } :=
  ⟨rfl, rfl, rfl, rfl, rfl⟩

theorem State.forwardFrame_classifyFrame (s : State) (l : Lane) (f : LaneFrame) (m : Mark) : ClassifyFrame s (s.forwardFrame l f m) := by
  constructor <;> simp [State.forwardFrame]

/-! ### The Bin Processor and the Copy Merger -/

theorem State.discover_classifyFrame (s : State) (x : Sample) : ClassifyFrame s (s.discover x) :=
  have counted := s.modCounters_classifyFrame _
  .ite (counted.trans (State.discovery_classifyFrame _ _))
    (.ite ((counted.trans (State.discovery_classifyFrame _ _)).trans (State.notify_frame _ _).classifyFrame)
      (counted.trans (State.modCounters_classifyFrame _ _)))

theorem State.workSample_classifyFrame (s : State) (x : Sample) : ClassifyFrame s (s.workSample x) := by
  unfold State.workSample
  split
  · exact s.discover_classifyFrame x
  · exact (s.workSlot_frame _ x).classifyFrame

theorem State.evictIfFull_classifyFrame (s : State) : ClassifyFrame s s.evictIfFull :=
  .ite ((s.copies_classifyFrame _).trans (State.modCounters_classifyFrame _ _)) (.refl s)

theorem State.mergeSample_classifyFrame (s : State) (x : Sample) : ClassifyFrame s (s.mergeSample x) :=
  .ite ((s.modCounters_classifyFrame _).trans (State.mergeNote_frame _ x).classifyFrame)
    ((s.evictIfFull_classifyFrame.trans (State.copies_classifyFrame _ _)).trans (State.workSample_classifyFrame _ x))

/-! ### The classifier's ways of disposing of a frame (R20, R25 to R31) -/

theorem State.lengthFailure_classifyFrame (s : State) (l : Lane) (f : LaneFrame) (b : Bool) : ClassifyFrame s (s.lengthFailure l f b) :=
  .ite ((s.modCounters_classifyFrame _).trans (State.forwardFrame_classifyFrame _ l f _)) (s.modCounters_classifyFrame _)

theorem State.binReport_classifyFrame (s : State) (l : Lane) (f : LaneFrame) (h : Index16) (y : Layout) (b : Bool) :
    ClassifyFrame s (s.binReport l f h y b) :=
  .ite (.trans (.ite (s.forwardFrame_classifyFrame l f _) (.refl s)) (State.mergeSample_classifyFrame _ _))
    (s.lengthFailure_classifyFrame l f b)

theorem State.matchedFrame_classifyFrame (s : State) (l : Lane) (f : LaneFrame) (h : Index16) :
    ClassifyFrame s (s.matchedFrame l f h) := by
  have counted := s.modCounters_classifyFrame fun c => { c with matched := c.matched.set h (inc32 c.matched[h]) }
  unfold State.matchedFrame
  dsimp only
  split
  · exact counted.trans (State.forwardFrame_classifyFrame _ l f _)
  · exact counted
  · exact counted.trans (State.binReport_classifyFrame _ l f h _ _)
  · exact counted.trans (State.binReport_classifyFrame _ l f h _ _)

theorem State.unmatchedFrame_classifyFrame (s : State) (l : Lane) (f : LaneFrame) : ClassifyFrame s (s.unmatchedFrame l f) := by
  have counted := s.modCounters_classifyFrame fun c => { c with defaultFrames := inc32 c.defaultFrames }
  unfold State.unmatchedFrame
  dsimp only
  split
  · exact counted.trans (State.forwardFrame_classifyFrame _ l f _)
  · exact counted

/-- However a frame is disposed of, the lanes and the classifier's tables stay as the take left them. -/
theorem State.classify_classifyFrame (s : State) (l : Lane) (f : LaneFrame) : ClassifyFrame s (s.classify l f) := by
  unfold State.classify
  split
  · split
    · exact s.matchedFrame_classifyFrame l f _
    · exact s.unmatchedFrame_classifyFrame l f
  · exact s.forwardFrame_classifyFrame l f _

/-! ### The take (R19) -/

/-- The first lane in turn with a frame is the one from which the take takes its head. -/
theorem takes_of_first_in_turn {s : State} {n : Lane} (skipped : ∀ m : Lane, m < n → (s.lanes[s.classifier.pointer + 1 + m]).fifo = [])
    (waits : (s.lanes[s.classifier.pointer + 1 + n]).fifo ≠ []) :
    Takes s (s.classifier.pointer + 1 + n) ((s.lanes[s.classifier.pointer + 1 + n]).fifo.head waits) :=
  ⟨s.laneToServe_eq n skipped waits, List.head?_eq_some_head waits⟩

/-- Settles O26: the lane served is the first in turn with a frame, and what becomes of the frame keeps the frame of the take. -/
theorem takeServesTheLanesInTurn : Obligations.TakeServesTheLanesInTurn := by
  intro s n l skipped waits
  have frame := (taken s l).classify_classifyFrame l ((s.lanes[l]).fifo.head waits)
  exact ⟨_, execTake_of_takes (takes_of_first_in_turn skipped waits), frame.classifier, frame.lanes, frame.mgmt, frame.stores, frame.sweep⟩

end Sys2Proof.Machine

/-! PROOF. The fill computation: the distance, the curve, the median and the estimate, each with the bounds that its rounding gives. -/

namespace Sys2Proof.Machine

open Sys2Proof.Safety

/-! ### S1: the distance (R79) -/

/-- The working temperature is the reading moved to the nearer limit, by cases as R79 words it. -/
theorem workingTemperature_some (t : Int) :
    workingTemperature (some t) = if t < -40 then -40 else if 85 < t then 85 else t := by
  rw [show workingTemperature (some t) = max (-40) (min 85 t) from rfl]
  split_ifs <;> omega

theorem workingTemperature_mem (o : Option Int) : -40 ≤ workingTemperature o ∧ workingTemperature o ≤ 85 := by
  cases o with
  | none => decide
  | some t => rw [workingTemperature_some]; split_ifs <;> omega

/-- A time of flight's distance is the rounded quotient itself: above 0 the speed of sound leaves nothing for `toNat` to cut off. -/
theorem distanceOf_tofUs (raw : Nat) (o : Option Int) :
    (distanceOf .tofUs raw o : Int) = (raw * (3313 + 6 * workingTemperature o) + 10000) / 20000 := by
  have warm := (workingTemperature_mem o).1
  have path : 0 ≤ (raw : Int) * (3313 + 6 * workingTemperature o) := mul_nonneg (by omega) (by omega)
  exact Int.toNat_of_nonneg (by omega)

/-- Settles O14: the working temperature keeps the factor within 3073 to 3823, so the quotient is not negative and at most 12527. -/
theorem timeOfFlightGivesRoundedDistance : Obligations.TimeOfFlightGivesRoundedDistance := by
  intro raw o fits w d
  have clamped : w = workingTemperature o := by
    cases o with
    | none => rfl
    | some t => exact (workingTemperature_some t).symm
  have rounded : d = (raw * (3313 + 6 * w) + 10000) / 20000 := clamped ▸ distanceOf_tofUs raw o
  have warmest : w ≤ 85 := clamped ▸ (workingTemperature_mem o).2
  have longest : (raw : Int) * (3313 + 6 * w) ≤ 65535 * 3823 := by
    have : (raw : Int) * (3313 + 6 * w) ≤ raw * 3823 := mul_le_mul_of_nonneg_left (by omega) (by omega)
    omega
  omega

/-! ### S3: the curve (R83) -/

/-- Below the origin the page's first value is held. -/
theorem curveFill_below {p : CurvePage} {d : Nat} (below : d < p.origin) : curveFill p d = p.point 0 :=
  if_pos (by omega)

/-- The segment and the offset in it: at `i` whole segments and `r` more beyond the origin, the interpolation is between points `i` and
`i + 1`, and from segment 32 on the last value is held. -/
theorem curveFill_segment (p : CurvePage) {i r : Nat} (short : r < 2 ^ p.exponent) :
    curveFill p (p.origin + i * 2 ^ p.exponent + r) =
      if 32 ≤ i then p.point 32
      else ((p.point i : Int) +
        (2 * (((p.point (i + 1) : Int) - p.point i) * r) + 2 ^ p.exponent) / (2 * 2 ^ p.exponent)).toNat := by
  have positive : (0 : Int) < 2 ^ p.exponent := by positivity
  have short' : (r : Int) < 2 ^ p.exponent := by exact_mod_cast short
  have beyond : ((p.origin + i * 2 ^ p.exponent + r : Nat) : Int) - p.origin = r + 2 ^ p.exponent * i := by push_cast; ring
  have segment : ((r : Int) + 2 ^ p.exponent * i) / 2 ^ p.exponent = i := by
    rw [Int.add_mul_ediv_left _ _ positive.ne', Int.ediv_eq_zero_of_lt (by omega) short', zero_add]
  have offset : (r : Int) + 2 ^ p.exponent * i - i * 2 ^ p.exponent = r := by ring
  have inside : ¬ (r : Int) + 2 ^ p.exponent * i < 0 := not_lt.2 (by positivity)
  unfold curveFill
  simp only [beyond, segment, Int.toNat_natCast, offset, if_neg inside]

/-- At or beyond 32 segments the page's last value is held. -/
theorem curveFill_beyond {p : CurvePage} {d : Nat} (beyond : p.origin + 32 * 2 ^ p.exponent ≤ d) : curveFill p d = p.point 32 := by
  obtain ⟨x, rfl⟩ := Nat.exists_eq_add_of_le (Nat.le_of_add_right_le beyond)
  have positive : 0 < 2 ^ p.exponent := by positivity
  have segments : 32 ≤ x / 2 ^ p.exponent := (Nat.le_div_iff_mul_le positive).2 (by omega)
  have located := curveFill_segment p (i := x / 2 ^ p.exponent) (Nat.mod_lt x positive)
  rwa [Nat.add_assoc, Nat.mul_comm, Nat.div_add_mod, if_pos segments] at located

/-- A difference `g` between two points, spread over `S` steps and rounded after `r` of them, lies between 0 and `g`. -/
theorem rounded_rise_mem {g r S : Int} (start : 0 ≤ r) (stop : r < S) :
    min 0 g ≤ (2 * (g * r) + S) / (2 * S) ∧ (2 * (g * r) + S) / (2 * S) ≤ max 0 g := by
  have positive : 0 < 2 * S := by omega
  rw [Int.le_ediv_iff_mul_le positive, ← Int.lt_add_one_iff (b := max 0 g), Int.ediv_lt_iff_lt_mul positive]
  rcases le_total 0 g with rising | falling
  · rw [min_eq_left rising, max_eq_right rising]
    constructor <;> nlinarith
  · rw [min_eq_right falling, max_eq_left falling]
    constructor <;> nlinarith

/-- On a segment the fill is the first point and the rounded rise. -/
theorem curveFill_between (p : CurvePage) {i r : Nat} (segment : i < 32) (short : r < 2 ^ p.exponent) :
    (curveFill p (p.origin + i * 2 ^ p.exponent + r) : Int) =
      p.point i + (2 * (((p.point (i + 1) : Int) - p.point i) * r) + 2 ^ p.exponent) / (2 * 2 ^ p.exponent) := by
  have short' : (r : Int) < 2 ^ p.exponent := by exact_mod_cast short
  have lower := (rounded_rise_mem (g := (p.point (i + 1) : Int) - p.point i) (by omega) short').1
  rw [curveFill_segment p short, if_neg (by omega)]
  exact Int.toNat_of_nonneg (by omega)

/-- Settles O15: each region by its own lemma; on a segment the rounded rise lies between 0 and the difference of the two points. -/
theorem curveInterpolatesBetweenNeighbours : Obligations.CurveInterpolatesBetweenNeighbours := by
  intro p d
  refine ⟨curveFill_below, curveFill_beyond, ?_⟩
  rintro i r segment short rfl step q rise
  have positive : 0 < 2 * step := by positivity
  have short' : (r : Int) < 2 ^ p.exponent := by exact_mod_cast short
  have value := curveFill_between p segment short
  have rounded : rise = (2 * q + step) / (2 * step) := by simp only [rise, value, q, step]; ring
  have between : min 0 ((p.point (i + 1) : Int) - p.point i) ≤ rise ∧ rise ≤ max 0 ((p.point (i + 1) : Int) - p.point i) := by
    rw [rounded]
    exact rounded_rise_mem (by omega) short'
  refine ⟨⟨?_, ?_⟩, ?_⟩
  · have := Int.lt_mul_ediv_self_add (x := 2 * q + step) positive
    rw [← rounded] at this
    omega
  · rw [rounded]
    exact Int.mul_ediv_self_le positive.ne'
  · omega

/-! ### S6: the median (R87) -/

/-- The median of three is one of them, with two at most it and two at least it. -/
theorem median3_middle (a b c : Nat) :
    median3 a b c ∈ [a, b, c] ∧ 2 ≤ [a, b, c].countP (fun x => decide (x ≤ median3 a b c)) ∧
      2 ≤ [a, b, c].countP (fun x => decide (median3 a b c ≤ x)) := by
  have sorted : median3 a b c = max (min a b) (min (max a b) c) := rfl
  simp only [List.mem_cons, List.not_mem_nil, or_false, List.countP_cons, List.countP_nil, decide_eq_true_eq]
  refine ⟨by omega, ?_, ?_⟩ <;> split_ifs <;> omega

/-- Settles O16: the pre-filter's condition decides between the median and the fill. -/
theorem medianIsTheMiddleOfThree : Obligations.MedianIsTheMiddleOfThree := by
  intro c r fill
  constructor
  · intro filtered l
    rw [show valueToStore c r fill = median3 fill (r.cell 0) (r.cell 1) from if_pos filtered]
    exact median3_middle fill (r.cell 0) (r.cell 1)
  · exact fun plain => if_neg plain

/-! ### S8: the estimate (R89 to R91) -/

/-- The settling mean is the mean rounded with halves upward. -/
theorem settlingMean_rounds {r : Ring} (held : 1 ≤ r.occupancy) :
    2 * r.occupancy * settlingMean r ≤ 2 * r.stored.sum + r.occupancy ∧
      2 * r.stored.sum + r.occupancy < 2 * r.occupancy * (settlingMean r + 1) :=
  ⟨Nat.mul_div_le .., Nat.lt_mul_div_succ _ (by omega)⟩

/-- The kernel value is the only number whose rounding interval holds the kernel sum. -/
theorem kernelValue_eq {t : Stores} {c : ClassDesc} {r : Ring} {e : Int} (lower : 16384 * e ≤ kernelSum t c r + 8192)
    (upper : kernelSum t c r + 8192 < 16384 * (e + 1)) : kernelValue t c r = e := by
  unfold kernelValue; omega

theorem clampEstimate_of_mem {e : Int} (lower : 0 ≤ e) (upper : e ≤ 1000) : clampEstimate e = e.toNat := by
  unfold clampEstimate; omega

theorem clampEstimate_of_neg {e : Int} (low : e < 0) : clampEstimate e = 0 := by
  unfold clampEstimate; omega

theorem clampEstimate_of_gt {e : Int} (high : 1000 < e) : clampEstimate e = 1000 := by
  unfold clampEstimate; omega

/-- While the ring settles, S8 writes the settling mean and nothing else. -/
theorem State.estimate_settling {s : State} {i : Slot} (settles : (s.record i).ring.occupancy < (s.classOf i).kernelLength) :
    s.estimate i = s.setRecord i { s.record i with estimate := some (settlingMean (s.record i).ring) } := by
  simp [State.estimate, State.modRecord, Nat.not_le.2 settles]

/-- With enough values, S8 writes the clamped kernel value, each flag set by its own side, and counts a clamp on either. -/
theorem State.estimate_kernel {s : State} {i : Slot} {e : Int} (full : (s.classOf i).kernelLength ≤ (s.record i).ring.occupancy)
    (value : kernelValue s.stores (s.classOf i) (s.record i).ring = e) :
    s.estimate i =
      let written := s.setRecord i { s.record i with
        estimate := some (clampEstimate e)
        lowClamp := (s.record i).lowClamp || decide (e < 0)
        highClamp := (s.record i).highClamp || decide (1000 < e) }
      if e < 0 ∨ 1000 < e then written.modCounters fun k => { k with clamps := inc32 k.clamps } else written := by
  simp [State.estimate, State.modRecord, rawEstimate, full, Nat.not_lt.2 full, value]

/-- Settles O18: the settling mean by its rounding, the kernel value by the side of 0 to 1000 on which it lies. -/
theorem estimateIsTheMeanOrTheClampedKernelValue : Obligations.EstimateIsTheMeanOrTheClampedKernelValue := by
  refine ⟨fun s i held settles => ⟨_, State.estimate_settling settles, settlingMean_rounds held⟩, ?_⟩
  intro s i e full r c acc lower upper
  rw [State.estimate_kernel full (kernelValue_eq lower upper)]
  refine ⟨?_, ?_, ?_⟩
  · rintro ⟨notLow, notHigh⟩
    simp [clampEstimate_of_mem notLow notHigh, not_lt.2 notLow, not_lt.2 notHigh, r]
  · intro low
    have notHigh : ¬1000 < e := by omega
    simp [clampEstimate_of_neg low, low, notHigh, r, inc32, satAdd]
  · intro high
    have notLow : ¬e < 0 := by omega
    simp [clampEstimate_of_gt high, high, notLow, r, inc32, satAdd]

end Sys2Proof.Machine

/-! PROOF. LOAD_CURVE and LOAD_KERNEL: what their parameter bytes give, and what the Curve Store and the Kernel Store hold after them. -/

namespace Sys2Proof.Machine

open Sys2Proof.Safety

/-! ### A request that is taken (R166) -/

/-- A request of the right length is handed whole to its owner, on the state without it, and its answer placed. -/
theorem serve_of_requests {s : State} {code : Byte} {q : Request} {fits : List Byte → Bool} (own : State → List Byte → Reply)
    (asks : Requests s code q) (long : fits q.params = true) :
    serve code fits own s = .next ((own s.dropRequest q.params).place q) :=
  serve_of_fits (State.requestOf_some.2 asks) long

/-- A request that its owner refuses is answered with the status, and nothing else changes (R167). -/
theorem serve_of_refused {s : State} {code : Byte} {q : Request} {fits : List Byte → Bool} {own : State → List Byte → Reply}
    {status : Status} (asks : Requests s code q) (long : fits q.params = true)
    (refused : own s.dropRequest q.params = s.dropRequest.refuse status) :
    serve code fits own s = .next (answered s q status []) := by
  rw [serve_of_requests own asks long, refused]
  rfl

/-! ### Numbers read one after another -/

theorem readIndex_of_eq {ps : List Byte} {i : Nat} {k : Index16} (h : read8 ps i = k.val) : readIndex ps i = some k := by
  simp [readIndex, h]

theorem readIndex_of_gt {ps : List Byte} {i : Nat} (h : 15 < read8 ps i) : readIndex ps i = none :=
  dif_neg (by omega)

/-- Numbers packed in 2 bytes each after a header are read back in their order. -/
theorem read16_packed (l : List Nat) (fits : ∀ n ∈ l, n < 65536) (header : List Byte) :
    (List.range l.length).map (fun k => read16 (header ++ (l.map pack16).flatten) (header.length + 2 * k)) = l := by
  induction l generalizing header with
  | nil => rfl
  | cons n l ih =>
    have rest := ih (fun m hm => fits m (List.mem_cons_of_mem _ hm)) (header ++ pack16 n)
    rw [List.length_cons, List.range_succ_eq_map, List.map_cons, List.map_map]
    congr 1
    · rw [Nat.mul_zero, Nat.add_zero, read16_append, List.map_cons, List.flatten_cons, read16_pack16 (fits n List.mem_cons_self)]
    · conv_rhs => rw [← rest]
      refine List.map_congr_left fun k _ => ?_
      simp only [Function.comp, List.map_cons, List.flatten_cons, List.append_assoc, List.length_append, pack16_length]
      congr 1; omega

/-- Signed numbers packed in 2 bytes each after a header are read back in their order. -/
theorem readInt16_packed (l : List Int) (fits : ∀ c ∈ l, -32768 ≤ c ∧ c ≤ 32767) (header : List Byte) :
    (List.range l.length).map (fun k => readInt16 (header ++ (l.map packInt16).flatten) (header.length + 2 * k)) = l := by
  have words := read16_packed (l.map fun c => (BitVec.ofInt 16 c).toNat) (by simp; omega) header
  have signed := congrArg (List.map fun n => (BitVec.ofNat 16 n).toInt) words
  rw [List.map_map, List.map_map, List.map_map, List.length_map] at signed
  refine signed.trans ((List.map_congr_left fun c mem => ?_).trans (List.map_id l))
  have back := readInt16_packInt16 (fits c mem).1 (fits c mem).2 []
  rwa [readInt16, packInt16, read16_pack16 (BitVec.isLt _)] at back

theorem pack16_flatten_length (l : List Nat) : (l.map pack16).flatten.length = 2 * l.length := by
  simp [List.length_flatten, Function.comp_def, Nat.mul_comm]

theorem packInt16_flatten_length (l : List Int) : (l.map packInt16).flatten.length = 2 * l.length := by
  simp [List.length_flatten, Function.comp_def, Nat.mul_comm]

/-! ### LOAD_CURVE (R75) -/

/-- The parameter bytes of LOAD_CURVE (12, R189). -/
def curveBytes (n origin exponent : Nat) (fills : List Nat) : List Byte :=
  pack8 n ++ pack16 origin ++ pack8 exponent ++ (fills.map pack16).flatten

theorem curveBytes_length (n origin exponent : Nat) (fills : List Nat) :
    (curveBytes n origin exponent fills).length = 4 + 2 * fills.length := by
  rw [curveBytes, List.length_append, pack16_flatten_length]
  rfl

theorem read8_curveBytes_page {n : Nat} (h : n < 256) (origin exponent : Nat) (fills : List Nat) :
    read8 (curveBytes n origin exponent fills) 0 = n := read8_pack8 h _

theorem read16_curveBytes_origin {origin : Nat} (h : origin < 65536) (n exponent : Nat) (fills : List Nat) :
    read16 (curveBytes n origin exponent fills) 1 = origin := read16_pack16 h (pack8 exponent ++ (fills.map pack16).flatten)

theorem read8_curveBytes_exponent {exponent : Nat} (h : exponent < 256) (n origin : Nat) (fills : List Nat) :
    read8 (curveBytes n origin exponent fills) 3 = exponent := read8_pack8 h (fills.map pack16).flatten

theorem readFills_curveBytes {fills : List Nat} (count : fills.length = 33) (fits : ∀ f ∈ fills, f < 65536) (n origin exponent : Nat) :
    (readFills (curveBytes n origin exponent fills)).toList = fills := by
  have words := read16_packed fills fits (pack8 n ++ pack16 origin ++ pack8 exponent)
  rwa [count] at words

/-- The page that LOAD_CURVE stores for its parameter bytes: each fill above the largest moved down to it. -/
def loadedPage (ps : List Byte) : CurvePage :=
  { origin := read16 ps 1, exponent := read8 ps 3, points := ⟨⟨(readFills ps).toList.map fun f => min Config.maxFill f⟩, by simp⟩ }

theorem loadedPage_points (ps : List Byte) :
    (loadedPage ps).points.toList = (readFills ps).toList.map fun f => if 1000 < f then 1000 else f := by
  change (readFills ps).toList.map (fun f => min 1000 f) = _
  exact List.map_congr_left fun f _ => by split <;> omega

/-- In range, the page is replaced by the one that the bytes give, and CLAMPED tells of a value moved. -/
theorem ownLoadCurve_of_inRange (s : State) {ps : List Byte} {k : Index16} (page : read8 ps 0 = k.val) (origin : read16 ps 1 ≤ 8191)
    (exponent : 3 ≤ read8 ps 3 ∧ read8 ps 3 ≤ 8) :
    ownLoadCurve s ps =
      { state := { s with stores := { s.stores with curves := s.stores.curves.set k (loadedPage ps) } }
        status := if (readFills ps).toList.all (fun f => decide (f ≤ Config.maxFill)) then .ok else .clamped
        results := [] } := by
  simp only [ownLoadCurve, readIndex_of_eq page, if_pos (And.intro origin exponent)]
  rfl

/-- Out of range, whatever the 33 values are, the request is refused. -/
theorem ownLoadCurve_of_outOfRange (s : State) {ps : List Byte}
    (out : 15 < read8 ps 0 ∨ 8191 < read16 ps 1 ∨ read8 ps 3 < 3 ∨ 8 < read8 ps 3) : ownLoadCurve s ps = s.refuse .badParam := by
  unfold ownLoadCurve
  split
  next n page =>
    refine if_neg fun inRange => ?_
    have notPage : ¬15 < read8 ps 0 := fun h => by rw [readIndex_of_gt h] at page; cases page
    omega
  next => rfl

/-- A LOAD_CURVE in range replaces its page; a fill above 1000 is stored as 1000 and answered CLAMPED. -/
theorem execLoadCurve_of_inRange {s : State} {q : Request} {k : Index16} {origin exponent : Nat} {fills : List Nat}
    (asks : Requests s 0x22 q) (params : q.params = curveBytes k.val origin exponent fills) (count : fills.length = 33)
    (fits : ∀ f ∈ fills, f < 65536) (inOrigin : origin ≤ 8191) (inExponent : 3 ≤ exponent ∧ exponent ≤ 8) :
    ∃ page : CurvePage,
      page.origin = origin ∧ page.exponent = exponent ∧ page.points.toList = fills.map (fun f => if 1000 < f then 1000 else f) ∧
      exec .loadCurve s = .next { answered s q (if fills.all (fun f => decide (f ≤ 1000)) then .ok else .clamped) [] with
        stores := { s.stores with curves := s.stores.curves.set k page } } := by
  have long : exactly 70 q.params = true := by simp [exactly, params, curveBytes_length, count]
  have values : (readFills q.params).toList = fills := params ▸ readFills_curveBytes count fits k.val origin exponent
  have page : read8 q.params 0 = k.val := params ▸ read8_curveBytes_page (by omega) origin exponent fills
  have start : read16 q.params 1 = origin := params ▸ read16_curveBytes_origin (by omega) k.val exponent fills
  have scale : read8 q.params 3 = exponent := params ▸ read8_curveBytes_exponent (by omega) k.val origin fills
  have owner := ownLoadCurve_of_inRange s.dropRequest page (start ▸ inOrigin) (scale ▸ inExponent)
  refine ⟨loadedPage q.params, start, scale, ?_, ?_⟩
  · rw [loadedPage_points, values]
  · change serve 0x22 (exactly 70) ownLoadCurve s = _
    rw [serve_of_requests ownLoadCurve asks long, owner, values]
    rfl

/-! ### LOAD_KERNEL (R76) -/

/-- The parameter bytes of LOAD_KERNEL (12, R189). -/
def kernelBytes (start : Nat) (l : List Int) : List Byte := pack8 start ++ pack8 l.length ++ (l.map packInt16).flatten

theorem read8_kernelBytes_start {start : Nat} (h : start < 256) (l : List Int) : read8 (kernelBytes start l) 0 = start := read8_pack8 h _

theorem read8_kernelBytes_count {l : List Int} (h : l.length < 256) (start : Nat) : read8 (kernelBytes start l) 1 = l.length :=
  read8_pack8 h (l.map packInt16).flatten

theorem kernelFits_kernelBytes {l : List Int} (h : l.length < 256) (start : Nat) : kernelFits (kernelBytes start l) = true := by
  have long : (kernelBytes start l).length = 2 + 2 * l.length := by
    rw [kernelBytes, List.length_append, packInt16_flatten_length]
    rfl
  simp [kernelFits, read8_kernelBytes_count h, long]

theorem readCoefficients_kernelBytes {l : List Int} (count : l.length < 256) (fits : ∀ c ∈ l, -32768 ≤ c ∧ c ≤ 32767) (start : Nat) :
    readCoefficients (kernelBytes start l) = l := by
  rw [readCoefficients, read8_kernelBytes_count count]
  exact readInt16_packed l fits (pack8 start ++ pack8 l.length)

/-- The written coefficients stand from the start on, the others as they were. -/
theorem getElem_writeCoefficients (kernel : Vector Int 128) (start : Nat) (l : List Int) (p : Fin 128) :
    (writeCoefficients kernel start l)[p] =
      if start ≤ p.val ∧ p.val < start + l.length then l.getD (p.val - start) 0 else kernel[p] := by
  simp [writeCoefficients, List.getD_eq_getElem?_getD]

/-- The refusals of LOAD_KERNEL, over the start and the coefficients that its parameter bytes give. -/
theorem ownLoadKernel_eq (s : State) {ps : List Byte} {start : Nat} {l : List Int} (first : read8 ps 0 = start)
    (values : readCoefficients ps = l) :
    ownLoadKernel s ps =
      if l.length = 0 ∨ 32 < l.length ∨ 127 < start ∨ 128 < start + l.length then s.refuse .badParam
      else
        { state := { s with stores := { s.stores with kernel := writeCoefficients s.stores.kernel start l } }
          status := .ok
          results := [] } := by
  rw [ownLoadKernel, first, values]

/-- Settles O49: the parameter bytes are read back, then each command follows its owner's ranges. -/
theorem loadCurveAndKernelWriteTheStores : Obligations.LoadCurveAndKernelWriteTheStores := by
  constructor
  · intro s q n origin exponent fills asks page start scale count fits params
    constructor
    · rintro k rfl inOrigin low high
      exact execLoadCurve_of_inRange asks params count fits inOrigin ⟨low, high⟩
    · intro out
      change q.params = curveBytes n origin exponent fills at params
      refine serve_of_refused asks (by simp [exactly, params, curveBytes_length, count]) (ownLoadCurve_of_outOfRange _ ?_)
      rwa [params, read8_curveBytes_page page, read16_curveBytes_origin start, read8_curveBytes_exponent scale]
  · intro s q start l asks first count fits params
    change q.params = kernelBytes start l at params
    have long : kernelFits q.params = true := params ▸ kernelFits_kernelBytes count start
    have owner := ownLoadKernel_eq s.dropRequest (params ▸ read8_kernelBytes_start first l)
      (params ▸ readCoefficients_kernelBytes count fits start)
    constructor
    · intro nonempty few inside
      refine ⟨_, getElem_writeCoefficients s.stores.kernel start l, ?_⟩
      change serve 0x23 kernelFits ownLoadKernel s = _
      rw [serve_of_requests ownLoadKernel asks long, owner, if_neg (by omega)]
      rfl
    · intro out
      rw [← List.length_eq_zero_iff] at out
      exact serve_of_refused asks long (owner.trans (if_pos out))

end Sys2Proof.Machine

/-! PROOF. The candidate band: R97's table, read from the highest band down. -/

namespace Sys2Proof.Machine

/-! ### The candidate (R97) -/

/-- "At least NEAR" in R97's table. -/
theorem Band.ne_low_iff {b : Band} : b ≠ .low ↔ b = .near ∨ b = .full := by
  cases b <;> decide

/-- The model adds the hysteresis to the estimate where R97 takes it from the threshold, so that no subtraction is cut off at 0. -/
theorem threshold_le_add_iff {threshold hysteresis e : Nat} :
    threshold ≤ e + hysteresis ↔ (threshold : Int) - hysteresis ≤ e := by
  omega

/-- The candidate with the thresholds as R97's table words them. -/
theorem candidateBand_eq (c : ClassDesc) (b : Band) (e : Nat) :
    candidateBand c b e =
      if c.fullOn ≤ e ∨ (b = .full ∧ (c.fullOn : Int) - c.hysteresis ≤ e) then .full
      else if c.nearOn ≤ e ∨ ((b = .near ∨ b = .full) ∧ (c.nearOn : Int) - c.hysteresis ≤ e) then .near
      else .low := by
  simp only [candidateBand, Band.ne_low_iff, threshold_le_add_iff]

/-- Settles O19: the two tests of the candidate are the two rows of R97's table, FULL's first. -/
theorem candidateIsTheHighestBandReached : Obligations.CandidateIsTheHighestBandReached := by
  intro c held e reachesFull reachesNear
  rw [candidateBand_eq]
  refine ⟨?_, ?_, ?_⟩
  · intro full
    exact if_pos full
  · intro notFull near
    exact (if_neg notFull).trans (if_pos near)
  · intro notFull notNear
    exact (if_neg notFull).trans (if_neg notNear)

end Sys2Proof.Machine

/-! PROOF. Liveness: the visit of the sweep and the arrival of a Sample, each by the row of its table that applies. -/

namespace Sys2Proof.Machine

/-! ### The sweep's visit (R119 to R122) -/

/-- After slot 8191 the pass ends. -/
theorem map_val_nextSweepSlot (i : Slot) :
    (nextSweepSlot i).map Fin.val = if i.val = 8191 then none else some (i.val + 1) := by
  unfold nextSweepSlot
  split
  · rw [if_neg (by omega), Option.map_some]
  · rw [if_pos (by omega), Option.map_none]

/-- A visit whose change of liveness the table marks: the record written, then its notice. -/
theorem State.visit_notified {s : State} {i : Slot} {m : Nat} {l : Liveness}
    (figure : missedFigure s.mgmt.secs (s.record i).lastHeard (s.classOf i).reportInterval = m)
    (declared : livenessAtVisit (s.classOf i) (s.record i).liveness m = l)
    (marked : l ≠ (s.record i).liveness ∧ (l = .silent ∨ (s.classOf i).lateNotice = true)) :
    s.visit i = (s.setRecord i { s.record i with missed := m, liveness := l }).notifySlot i
      (.liveness (s.record i).liveness l m .visit) := by
  subst figure declared
  exact if_pos marked

/-- A visit that the table marks with no notice: the record written and nothing else. -/
theorem State.visit_quiet {s : State} {i : Slot} {m : Nat} {l : Liveness}
    (figure : missedFigure s.mgmt.secs (s.record i).lastHeard (s.classOf i).reportInterval = m)
    (declared : livenessAtVisit (s.classOf i) (s.record i).liveness m = l)
    (quiet : ¬(l ≠ (s.record i).liveness ∧ (l = .silent ∨ (s.classOf i).lateNotice = true))) :
    s.visit i = s.setRecord i { s.record i with missed := m, liveness := l } := by
  subst figure declared
  exact if_neg quiet

/-- What the sweep does at slot `i` before its position moves on (R119). -/
def State.sweepAt (s : State) (i : Slot) : State := if (s.record i).admin = .active then s.visit i else s

theorem State.sweepAt_frame (s : State) (i : Slot) : WorkFrame s (s.sweepAt i) := .ite (s.visit_frame i) (.refl s)

theorem State.sweepAt_of_active {s : State} {i : Slot} (active : (s.record i).admin = .active) : s.sweepAt i = s.visit i := if_pos active

theorem State.sweepAt_of_not_active {s : State} {i : Slot} (passed : (s.record i).admin ≠ .active) : s.sweepAt i = s := if_neg passed

/-- With the position at slot `i`, SWEEP_VISIT works slot `i` and moves no sweep register but the position. -/
theorem execSweepVisit_of_position {s : State} {i : Slot} (position : s.sweep.position = some i) :
    execSweepVisit s = .next { s.sweepAt i with sweep := { s.sweep with position := nextSweepSlot i } } := by
  rw [← (s.sweepAt_frame i).sweep]
  simp only [execSweepVisit, position]
  rfl

/-- Settles O57: the slot passed over, visited with a notice, or visited without one, by the record's state and the row that applies. -/
theorem sweepVisitDeclaresLateAndSilent : Obligations.SweepVisitDeclaresLateAndSilent := by
  intro s i position r c difference missed live visited
  refine ⟨_, s.sweepAt i, execSweepVisit_of_position position, rfl, map_val_nextSweepSlot i, State.sweepAt_of_not_active, ?_, ?_⟩
  · intro active turned marked
    exact (State.sweepAt_of_active active).trans (State.visit_notified rfl rfl ⟨turned, marked⟩)
  · intro active unmarked
    refine (State.sweepAt_of_active active).trans (State.visit_quiet rfl rfl ?_)
    rintro ⟨turned, marked⟩
    rcases unmarked with same | ⟨notSilent, off⟩
    · exact turned same
    · rcases marked with silent | on
      · exact notSilent silent
      · exact Bool.false_ne_true (off.symm.trans on)

/-! ### The arrival (R122 to R124) -/

/-- An arrival whose change the table marks: liveness and recovery count written, then the notice with the missed figure as it stands. -/
theorem State.arrival_notified {s : State} {i : Slot} {contiguous : Bool} {n : Nat} {l : Liveness}
    (worked : recoveryAfter (s.record i).liveness (s.record i).recovery contiguous = n)
    (lifted : livenessAfter (s.classOf i).recoverCount (s.record i).liveness n = l)
    (marked : arrivalNotified (s.classOf i) (s.record i).liveness l = true) :
    s.arrival i contiguous = (s.setRecord i { s.record i with liveness := l, recovery := n }).notifySlot i
      (.liveness (s.record i).liveness l (s.record i).missed .arrival) := by
  subst worked lifted
  exact if_pos marked

/-- An arrival that the table marks with no notice. -/
theorem State.arrival_quiet {s : State} {i : Slot} {contiguous : Bool} {n : Nat} {l : Liveness}
    (worked : recoveryAfter (s.record i).liveness (s.record i).recovery contiguous = n)
    (lifted : livenessAfter (s.classOf i).recoverCount (s.record i).liveness n = l)
    (quiet : arrivalNotified (s.classOf i) (s.record i).liveness l = false) :
    s.arrival i contiguous = s.setRecord i { s.record i with liveness := l, recovery := n } := by
  subst worked lifted
  exact if_neg (Bool.eq_false_iff.1 quiet)

/-- At a record in AWAITING, REPORTING or LATE the recovery count stands still (R123). -/
theorem recoveryAfter_of_present {l : Liveness} (present : l = .awaiting ∨ l = .reporting ∨ l = .late) (n : Nat) (contiguous : Bool) :
    recoveryAfter l n contiguous = n := by
  rcases present with rfl | rfl | rfl <;> rfl

theorem livenessAfter_of_present {l : Liveness} (present : l = .awaiting ∨ l = .reporting ∨ l = .late) (recoverCount n : Nat) :
    livenessAfter recoverCount l n = .reporting := by
  rcases present with rfl | rfl | rfl <;> rfl

/-- Of these three only LATE can raise a notice, and its class's enable decides. -/
theorem arrivalNotified_of_present {l : Liveness} (present : l = .awaiting ∨ l = .reporting ∨ l = .late) (c : ClassDesc) :
    arrivalNotified c l .reporting = (decide (l = .late) && c.lateNotice) := by
  rcases present with rfl | rfl | rfl <;> rfl

/-- The recovery count of R124: one more for a contiguous arrival while RECOVERING, else 1. -/
theorem recoveryAfter_of_lost {l : Liveness} (lost : l = .silent ∨ l = .recovering) (n : Nat) (contiguous : Bool) :
    recoveryAfter l n contiguous = if l = .recovering ∧ contiguous = true then min 15 (n + 1) else 1 := by
  rcases lost with rfl | rfl
  · rfl
  · cases contiguous <;> rfl

theorem livenessAfter_of_lost {l : Liveness} (lost : l = .silent ∨ l = .recovering) (recoverCount n : Nat) :
    livenessAfter recoverCount l n = if recoverCount ≤ n then .reporting else .recovering := by
  rcases lost with rfl | rfl <;> rfl

/-- A return from SILENT or RECOVERING always raises a notice, a change to RECOVERING none (R124). -/
theorem arrivalNotified_of_lost {l : Liveness} (lost : l = .silent ∨ l = .recovering) (c : ClassDesc) :
    arrivalNotified c l .reporting = true ∧ arrivalNotified c l .recovering = false := by
  rcases lost with rfl | rfl <;> exact ⟨rfl, rfl⟩

/-- Settles O58: from AWAITING, REPORTING and LATE by R123's table, from SILENT and RECOVERING by R124's recovery count. -/
theorem arrivalLiftsLiveness : Obligations.ArrivalLiftsLiveness := by
  intro s i contiguous r c recovery heard
  refine ⟨?_, ?_, ?_, ?_⟩
  · intro unmarked
    have present : r.liveness = .awaiting ∨ r.liveness = .reporting ∨ r.liveness = .late := unmarked.imp_right (Or.imp_right And.left)
    refine State.arrival_quiet (recoveryAfter_of_present present _ _) (livenessAfter_of_present present _ _)
      ((arrivalNotified_of_present present c).trans ?_)
    rcases unmarked with awaiting | reporting | ⟨late, off⟩
    · simp [awaiting]
    · simp [reporting]
    · simp [off]
  · intro late on
    have present : r.liveness = .awaiting ∨ r.liveness = .reporting ∨ r.liveness = .late := .inr (.inr late)
    rw [← late]
    exact State.arrival_notified (recoveryAfter_of_present present _ _) (livenessAfter_of_present present _ _)
      ((arrivalNotified_of_present present c).trans (by simp [late, on]))
  · intro lost short
    exact State.arrival_quiet (recoveryAfter_of_lost lost _ _) ((livenessAfter_of_lost lost _ _).trans (if_neg (Nat.not_le.2 short)))
      (arrivalNotified_of_lost lost c).2
  · intro lost reached
    exact State.arrival_notified (recoveryAfter_of_lost lost _ _) ((livenessAfter_of_lost lost _ _).trans (if_pos reached))
      (arrivalNotified_of_lost lost c).1

end Sys2Proof.Machine

/-! PROOF. The Visit List: what JOIN, LEAVE and MOVE do to a list whose places agree with its links, and that they keep the laws of membership and of counts. -/

namespace Sys2Proof.Machine

open Sys2Proof.Safety

/-! ### Buckets and counts -/

theorem VisitList.bucket_setBucket (v : VisitList) {b : Band} (listable : b ≠ .low) (k : Bucket) (l : List Slot) (c : Band) (m : Bucket) :
    (v.setBucket b k l).bucket c m = if c = b ∧ m = k then l else v.bucket c m := by
  cases b <;> cases c <;>
    simp_all [VisitList.setBucket, VisitList.bucket, Vector.getElem_set, Fin.ext_iff, eq_comm]

@[simp] theorem VisitList.bucket_step (v : VisitList) (b : Band) (k : Bucket) : v.step.bucket b k = v.bucket b k := by
  cases b <;> rfl

@[simp] theorem VisitList.bucket_countUp (v : VisitList) (c b : Band) (k : Bucket) : (v.countUp c).bucket b k = v.bucket b k := by
  cases c <;> cases b <;> rfl

@[simp] theorem VisitList.bucket_countDown (v : VisitList) (c b : Band) (k : Bucket) : (v.countDown c).bucket b k = v.bucket b k := by
  cases c <;> cases b <;> rfl

/-- A bucket replaced moves the number listed by the difference of the lengths. -/
theorem listed_set (v : Vector (List Slot) 63) (k : Bucket) (l : List Slot) :
    listed (v.set k l) + (v[k]).length = listed v + l.length := by
  have replaced : ∀ (a : List (List Slot)) (n : Nat) (h : n < a.length),
      ((a.set n l).map List.length).sum + a[n].length = (a.map List.length).sum + l.length := by
    intro a
    induction a with
    | nil => intro n h; exact absurd h (Nat.not_lt_zero n)
    | cons x a ih =>
      intro n h
      cases n with
      | zero => simp; omega
      | succ n =>
        have := ih n (Nat.lt_of_succ_lt_succ h)
        simp only [List.set_cons_succ, List.map_cons, List.sum_cons, List.getElem_cons_succ]
        omega
  have := replaced v.toList k (by simp)
  simpa [listed, Vector.toList_set] using this

/-- The slots behind position `p` are the rest of the bucket from the next position on. -/
theorem slotsBehind_eq_drop {l : List Slot} {p : Nat} {i : Slot} (once : l.Nodup) (stands : l[p]? = some i) :
    slotsBehind l i = l.drop (p + 1) := by
  induction l generalizing p with
  | nil => cases stands
  | cons x l ih =>
    obtain ⟨first, rest⟩ := List.nodup_cons.1 once
    cases p with
    | zero =>
      obtain rfl : x = i := by simpa using stands
      simp [slotsBehind]
    | succ p =>
      have stands' : l[p]? = some i := by simpa using stands
      have ne : x ≠ i := fun e => first (e ▸ List.mem_of_getElem? stands')
      rw [List.drop_succ_cons, ← ih rest stands']
      simp [slotsBehind, ne]

theorem mem_slotsBehind {l : List Slot} {p : Nat} {i j : Slot} (once : l.Nodup) (stands : l[p]? = some i) :
    j ∈ slotsBehind l i ↔ ∃ n, p < n ∧ l[n]? = some j := by
  rw [slotsBehind_eq_drop once stands, List.mem_iff_getElem?]
  simp only [List.getElem?_drop]
  constructor
  · rintro ⟨n, h⟩; exact ⟨p + 1 + n, by omega, h⟩
  · rintro ⟨n, h, e⟩; exact ⟨n - (p + 1), by rwa [Nat.add_sub_cancel' (by omega)]⟩

/-! ### Places -/

/-- The buckets hold at each place exactly the slot that `place` puts there: `place` gives a slot's band and links. -/
def Placed (v : VisitList) (place : Slot → Option (Band × VisitLinks)) : Prop :=
  ∀ (b : Band) (k : VisitLinks) (i : Slot), (v.bucket b k.bucket)[k.position]? = some i ↔ place i = some (b, k)

/-- The place that a record's links name. -/
def BinRecord.place (r : BinRecord) : Option (Band × VisitLinks) := r.links.map fun k => (r.band, k)

theorem Placed.nodup {v : VisitList} {place : Slot → Option (Band × VisitLinks)} (placed : Placed v place) (b : Band) (k : Bucket) :
    (v.bucket b k).Nodup :=
  bucket_nodup (fun i => ((place i).map fun m => m.2.position).getD 0) fun p i h => by
    rw [(placed b ⟨k, p⟩ i).1 h]; rfl

/-- No slot stands in LOW. -/
theorem Placed.ne_low {v : VisitList} {place : Slot → Option (Band × VisitLinks)} (placed : Placed v place) {i : Slot} {b : Band}
    {k : VisitLinks} (h : place i = some (b, k)) : b ≠ .low := by
  rintro rfl
  exact absurd ((placed _ _ _).2 h) (by simp [VisitList.bucket])

/-- The place of a slot once the slot at place `k` of band `b` has left: one nearer, where it stood behind. -/
def placeAfterLeave (b : Band) (k : VisitLinks) : Option (Band × VisitLinks) → Option (Band × VisitLinks)
  | none => none
  | some (c, m) =>
    if c = b ∧ m.bucket = k.bucket ∧ k.position < m.position then some (c, { bucket := m.bucket, position := m.position - 1 })
    else some (c, m)

theorem placeAfterLeave_eq_some {b c : Band} {k m : VisitLinks} {o : Option (Band × VisitLinks)} :
    placeAfterLeave b k o = some (c, m) ↔
      (o = some (c, m) ∧ ¬(c = b ∧ m.bucket = k.bucket ∧ k.position < m.position)) ∨
      (o = some (c, { m with position := m.position + 1 }) ∧ c = b ∧ m.bucket = k.bucket ∧ k.position ≤ m.position) := by
  obtain _ | ⟨d, n⟩ := o
  · simp [placeAfterLeave]
  · obtain ⟨nb, np⟩ := n
    obtain ⟨mb, mp⟩ := m
    simp only [placeAfterLeave]
    split
    all_goals
      simp only [Option.some.injEq, Prod.mk.injEq, VisitLinks.mk.injEq]
      grind

/-- LEAVE (R107): the slot erased from its bucket, the ones behind it one place nearer. -/
theorem Placed.erase {v : VisitList} {place : Slot → Option (Band × VisitLinks)} (placed : Placed v place) {i : Slot} {b : Band}
    {k : VisitLinks} (stands : place i = some (b, k)) :
    Placed (v.setBucket b k.bucket ((v.bucket b k.bucket).erase i)) fun j =>
      if j = i then none else placeAfterLeave b k (place j) := by
  obtain ⟨inside, here⟩ := List.getElem?_eq_some_iff.1 ((placed b k i).2 stands)
  intro c m j
  have at_m := placed c m j
  have behind := placed c { m with position := m.position + 1 } j
  dsimp only at behind ⊢
  rw [VisitList.bucket_setBucket v (placed.ne_low stands)]
  by_cases same : c = b ∧ m.bucket = k.bucket
  · obtain ⟨rfl, bucket⟩ := same
    rw [if_pos ⟨rfl, bucket⟩, ← here, (placed.nodup _ _).erase_getElem, List.getElem?_eraseIdx, here]
    rw [bucket] at at_m behind
    by_cases self : j = i
    · subst self
      have elsewhere : ∀ n, n.position ≠ k.position → place j ≠ some (c, n) := fun n ne e => by
        rw [e] at stands; cases stands; exact ne rfl
      simp only [if_true, reduceCtorEq, iff_false]
      split
      · rw [at_m]; exact elsewhere m (by omega)
      · rw [behind]; exact elsewhere _ (by simp only; omega)
    · rw [if_neg self, placeAfterLeave_eq_some]
      split
      · rw [at_m]; simp only [bucket, true_and]; constructor
        · intro h; exact .inl ⟨h, by omega⟩
        · rintro (⟨h, -⟩ | ⟨-, h⟩)
          · exact h
          · omega
      · rw [behind]; simp only [bucket, true_and]; constructor
        · intro h; exact .inr ⟨h, by omega⟩
        · rintro (⟨h, front⟩ | ⟨h, -⟩)
          · have clash : m.position = k.position := by omega
            have : m = k := by cases m; cases k; simp_all
            subst this
            have := (placed c m j).2 h
            rw [(placed c m i).2 stands] at this
            exact absurd (Option.some.inj this).symm self
          · exact h
  · rw [if_neg same, at_m]
    by_cases self : j = i
    · subst self
      simp only [if_true, reduceCtorEq, iff_false]
      intro h; rw [h] at stands; cases stands; exact same ⟨rfl, rfl⟩
    · rw [if_neg self, placeAfterLeave_eq_some]
      grind

/-- JOIN (R106): the slot at the tail of a bucket. -/
theorem Placed.append {v : VisitList} {place : Slot → Option (Band × VisitLinks)} (placed : Placed v place) {i : Slot} {b : Band}
    (listable : b ≠ .low) (k : Bucket) (off : place i = none) :
    Placed (v.setBucket b k (v.bucket b k ++ [i])) fun j =>
      if j = i then some (b, { bucket := k, position := (v.bucket b k).length }) else place j := by
  intro c m j
  have at_m := placed c m j
  obtain ⟨mb, p⟩ := m
  dsimp only at at_m ⊢
  rw [VisitList.bucket_setBucket v listable]
  by_cases same : c = b ∧ mb = k
  · obtain ⟨rfl, rfl⟩ := same
    rw [if_pos ⟨rfl, rfl⟩, List.getElem?_append]
    by_cases self : j = i
    · subst self
      have absent : ¬(v.bucket c mb)[p]? = some j := by rw [at_m, off]; simp
      grind
    · rw [if_neg self, ← at_m]
      grind
  · rw [if_neg same, at_m]
    by_cases self : j = i
    · subst self; rw [if_pos rfl, off]; grind
    · rw [if_neg self]

/-! ### A sound list -/

/-- The law of membership asks for a place (R104). -/
def BinRecord.Listable (r : BinRecord) : Prop := r.admin = .active ∧ r.visitMark = false ∧ r.band ≠ .low

/-- The law of counts (R109). -/
def VisitList.Counted (v : VisitList) : Prop := v.fullCount = listed v.full ∧ v.nearCount = listed v.near

end Sys2Proof.Machine

namespace Sys2Proof.Safety

open Sys2Proof.Machine

theorem VisitListSound.placed {s : State} (sound : VisitListSound s) : Placed s.visits fun i => (s.record i).place := by
  intro b k i
  simp only [BinRecord.place, Option.map_eq_some_iff]
  constructor
  · intro h
    obtain ⟨band, links⟩ := sound.once b k.bucket k.position i h
    exact ⟨k, links, by rw [band]⟩
  · rintro ⟨m, links, e⟩
    obtain ⟨rfl, rfl⟩ := Prod.mk.inj e
    exact (sound.place i m links).1

/-- A list whose places, members, buckets and counts are right is sound. -/
theorem VisitListSound.of_placed {s : State} (placed : Placed s.visits fun i => (s.record i).place)
    (members : ∀ i, (s.record i).links.isSome = true ↔ (s.record i).Listable)
    (buckets : ∀ i k, (s.record i).links = some k → ∃ e, (s.record i).estimate = some e ∧ k.bucket = bucketOf e)
    (counted : s.visits.Counted) : VisitListSound s where
  membership := members
  place i k links := ⟨(placed _ _ _).2 (by simp only [BinRecord.place, links, Option.map_some]), buckets i k links⟩
  once b k p i h := by
    have := (placed b ⟨k, p⟩ i).1 h
    simp only [BinRecord.place, Option.map_eq_some_iff] at this
    obtain ⟨m, links, e⟩ := this
    obtain ⟨rfl, rfl⟩ := Prod.mk.inj e
    exact ⟨rfl, links⟩
  counts := counted

theorem VisitListSound.unlisted {s : State} (sound : VisitListSound s) {i : Slot} (h : ¬(s.record i).Listable) :
    (s.record i).links = none :=
  Option.not_isSome_iff_eq_none.1 fun some => h ((sound.membership i).1 some)

end Sys2Proof.Safety

namespace Sys2Proof.Machine

open Sys2Proof.Safety

/-- What the Visit List and its laws read of a record. -/
structure SameVisit (r q : BinRecord) : Prop where
  admin : q.admin = r.admin
  mark : q.visitMark = r.visitMark
  band : q.band = r.band
  links : q.links = r.links
  /-- The estimate may move within its bucket. -/
  bucket : ∀ k, r.links = some k → (∃ e, r.estimate = some e ∧ k.bucket = bucketOf e) → ∃ e, q.estimate = some e ∧ k.bucket = bucketOf e

theorem SameVisit.refl (r : BinRecord) : SameVisit r r := ⟨rfl, rfl, rfl, rfl, fun _ _ h => h⟩

theorem SameVisit.of_eq {r q : BinRecord} (admin : q.admin = r.admin) (mark : q.visitMark = r.visitMark) (band : q.band = r.band)
    (estimate : q.estimate = r.estimate) (links : q.links = r.links) : SameVisit r q :=
  ⟨admin, mark, band, links, fun _ _ h => estimate ▸ h⟩

end Sys2Proof.Machine

namespace Sys2Proof.Safety

open Sys2Proof.Machine

/-- The laws read the buckets, the counts and five fields of each record, those of an unlistable slot's record excepted. -/
theorem VisitListSound.of_same {s t : State} (sound : VisitListSound s) (visits : t.visits = s.visits) (i : Slot)
    (others : ∀ j ≠ i, SameVisit (s.record j) (t.record j))
    (here : SameVisit (s.record i) (t.record i) ∨
      ((s.record i).links = none ∧ (t.record i).links = none ∧ ¬(t.record i).Listable)) : VisitListSound t := by
  have same_place : ∀ j, (t.record j).place = (s.record j).place := fun j => by
    by_cases h : j = i
    · subst h
      rcases here with same | ⟨off, off', -⟩
      · rw [BinRecord.place, BinRecord.place, same.band, same.links]
      · rw [BinRecord.place, BinRecord.place, off, off']; rfl
    · rw [BinRecord.place, BinRecord.place, (others j h).band, (others j h).links]
  have cases_ : ∀ j, SameVisit (s.record j) (t.record j) ∨
      ((s.record j).links = none ∧ (t.record j).links = none ∧ ¬(t.record j).Listable) := fun j => by
    by_cases h : j = i
    · exact h ▸ here
    · exact .inl (others j h)
  refine .of_placed ?_ (fun j => ?_) (fun j k links => ?_) (visits ▸ sound.counts)
  · simp only [same_place, visits]; exact sound.placed
  · rcases cases_ j with same | ⟨-, off, out⟩
    · rw [same.links, BinRecord.Listable, same.admin, same.mark, same.band]; exact sound.membership j
    · simp [off, out]
  · rcases cases_ j with same | ⟨-, off, -⟩
    · exact same.bucket k (same.links ▸ links) (sound.place j k (same.links ▸ links)).2
    · rw [off] at links; cases links

end Sys2Proof.Safety

namespace Sys2Proof.Machine

open Sys2Proof.Safety

/-! ### LEAVE -/

/-- A record one place nearer, where it stood in the bucket behind the place that was left. -/
def BinRecord.closeUp (r : BinRecord) (b : Band) (k : VisitLinks) : BinRecord :=
  match r.links with
  | some m =>
    if r.band = b ∧ m.bucket = k.bucket ∧ k.position < m.position then
      { r with links := some { bucket := m.bucket, position := m.position - 1 } }
    else r
  | none => r

theorem BinRecord.place_closeUp (r : BinRecord) (b : Band) (k : VisitLinks) : (r.closeUp b k).place = placeAfterLeave b k r.place := by
  simp only [BinRecord.closeUp]
  split
  next m links =>
    simp only [BinRecord.place, links, Option.map_some, placeAfterLeave]
    split
    · rfl
    · rw [links]; rfl
  next links => simp [BinRecord.place, links, placeAfterLeave]

theorem BinRecord.closeUp_links (r : BinRecord) (b : Band) (k : VisitLinks) : r.closeUp b k = { r with links := (r.closeUp b k).links } := by
  unfold BinRecord.closeUp
  split
  · split <;> rfl
  · rfl

theorem recordAfterLeave_of_listed {s : State} {i j : Slot} {k : VisitLinks} (listed : (s.record i).links = some k) (ne : j ≠ i) :
    recordAfterLeave s i j = (s.record j).closeUp (s.record i).band k := by
  simp only [recordAfterLeave, if_neg ne, listed, BinRecord.closeUp]
  cases (s.record j).links <;> rfl

theorem recordAfterLeave_of_unlisted {s : State} {i j : Slot} (off : (s.record i).links = none) (ne : j ≠ i) :
    recordAfterLeave s i j = s.record j := by
  simp only [recordAfterLeave, if_neg ne, off]

theorem visitsAfterLeave_of_unlisted {s : State} {i : Slot} (off : (s.record i).links = none) : visitsAfterLeave s i = s.visits := by
  simp only [visitsAfterLeave, off]

theorem visitsAfterLeave_of_listed {s : State} {i : Slot} {k : VisitLinks} (listed : (s.record i).links = some k)
    (listable : (s.record i).band ≠ .low) :
    visitsAfterLeave s i =
      ((s.visits.setBucket (s.record i).band k.bucket ((s.visits.bucket (s.record i).band k.bucket).erase i)).countDown
        (s.record i).band).step := by
  simp only [visitsAfterLeave, listed]
  cases h : (s.record i).band
  · exact absurd h listable
  all_goals rfl

/-- What is left of the list and of the other records once slot `i` has left (R107). -/
structure Left (s : State) (i : Slot) (t : State) : Prop where
  visits : t.visits = visitsAfterLeave s i
  behind : ∀ j ≠ i, t.record j = recordAfterLeave s i j

/-- The slots behind a slot in its bucket move up, and no other record changes. -/
theorem State.record_removeFromBucket {s : State} {place : Slot → Option (Band × VisitLinks)} (placed : Placed s.visits place) {i : Slot}
    {b : Band} {k : VisitLinks} (stands : place i = some (b, k)) {j : Slot} (named : place j = (s.record j).place) :
    (s.removeFromBucket i b k.bucket).record j = (s.record j).closeUp b k := by
  have at_i := (placed b k i).2 stands
  have once := placed.nodup b k.bucket
  refine (State.record_moveForward _ _ ?_ j).trans ?_
  · rw [slotsBehind_eq_drop once at_i]; exact once.sublist (List.drop_sublist ..)
  · change (if j ∈ slotsBehind (s.visits.bucket b k.bucket) i then (s.record j).moveForward else s.record j) = _
    have behind : j ∈ slotsBehind (s.visits.bucket b k.bucket) i ↔
        ∃ n, k.position < n ∧ place j = some (b, { bucket := k.bucket, position := n }) := by
      rw [mem_slotsBehind once at_i]
      exact exists_congr fun n => and_congr_right fun _ => placed b ⟨k.bucket, n⟩ j
    rw [named, BinRecord.place] at behind
    simp only [BinRecord.closeUp]
    cases links : (s.record j).links with
    | none =>
      rw [links] at behind
      exact if_neg (by rw [behind]; simp)
    | some m =>
      obtain ⟨mb, mp⟩ := m
      simp only [links, Option.map_some, Option.some.injEq, Prod.mk.injEq, VisitLinks.mk.injEq] at behind
      dsimp only
      by_cases h : (s.record j).band = b ∧ mb = k.bucket ∧ k.position < mp
      · rw [if_pos h, if_pos (behind.2 ⟨mp, h.2.2, h.1, h.2.1, rfl⟩), BinRecord.moveForward, links]; rfl
      · rw [if_neg h, if_neg]
        rw [behind]
        rintro ⟨n, lt, band, bucket, rfl⟩
        exact h ⟨band, bucket, lt⟩

/-- The slot itself keeps its record when it is taken out of its bucket. -/
theorem State.record_removeFromBucket_self {s : State} {place : Slot → Option (Band × VisitLinks)} (placed : Placed s.visits place)
    {i : Slot} {b : Band} {k : VisitLinks} (stands : place i = some (b, k)) : (s.removeFromBucket i b k.bucket).record i = s.record i := by
  have at_i := (placed b k i).2 stands
  have once := placed.nodup b k.bucket
  refine (State.record_moveForward _ _ ?_ i).trans (if_neg ?_)
  · rw [slotsBehind_eq_drop once at_i]; exact once.sublist (List.drop_sublist ..)
  · rw [mem_slotsBehind once at_i]
    rintro ⟨n, lt, e⟩
    have := (placed b ⟨k.bucket, n⟩ i).1 e
    rw [stands] at this
    have : k = ⟨k.bucket, n⟩ := (Prod.mk.inj (Option.some.inj this)).2
    rw [this] at lt
    exact Nat.lt_irrefl _ lt

/-- The visits after a slot is taken out of a bucket. -/
@[simp] theorem State.removeFromBucket_visits (s : State) (i : Slot) (b : Band) (k : Bucket) :
    (s.removeFromBucket i b k).visits = s.visits.setBucket b k ((s.visits.bucket b k).erase i) := by
  have kept : ∀ (l : List Slot) (t : State), (l.foldl (fun s j => s.modRecord j BinRecord.moveForward) t).visits = t.visits := by
    intro l
    induction l with
    | nil => exact fun _ => rfl
    | cons j l ih => exact fun t => ih _
  exact kept _ _

theorem State.record_leaveList {s : State} {i : Slot} {k : VisitLinks} (listed : (s.record i).links = some k) (b : Band) (j : Slot) :
    (s.leaveList i b).record j = ((s.removeFromBucket i b k.bucket).modRecord i fun r => { r with links := none }).record j := by
  simp only [State.leaveList, listed]; rfl

theorem State.visits_leaveList {s : State} {i : Slot} {k : VisitLinks} (listed : (s.record i).links = some k) (b : Band) :
    (s.leaveList i b).visits = ((s.visits.setBucket b k.bucket ((s.visits.bucket b k.bucket).erase i)).countDown b).step := by
  rw [← State.removeFromBucket_visits]
  simp only [State.leaveList, listed]; rfl

/-- A slot's record may have been rewritten, its links kept, before it leaves a list that was sound. -/
theorem State.leaveList_left {s : State} (sound : VisitListSound s) {i : Slot} {r : BinRecord} (links : r.links = (s.record i).links) :
    Left s i ((s.setRecord i r).leaveList i (s.record i).band) ∧
      ((s.setRecord i r).leaveList i (s.record i).band).record i = { r with links := none } := by
  cases listed : (s.record i).links with
  | none =>
    have off : ((s.setRecord i r).record i).links = none := by rw [State.record_setRecord_self, links, listed]
    rw [State.leaveList_of_none _ off]
    refine ⟨⟨(visitsAfterLeave_of_unlisted listed).symm, fun j ne => ?_⟩, ?_⟩
    · rw [recordAfterLeave_of_unlisted listed ne, State.record_setRecord_ne _ _ ne.symm]
    · rw [State.record_setRecord_self]
      have : r.links = none := links.trans listed
      cases r; simp_all
  | some k =>
    have on : ((s.setRecord i r).record i).links = some k := by rw [State.record_setRecord_self, links, listed]
    have stands : (s.record i).place = some ((s.record i).band, k) := by rw [BinRecord.place, listed]; rfl
    have listable := sound.placed.ne_low stands
    refine ⟨⟨?_, fun j ne => ?_⟩, ?_⟩
    · rw [visitsAfterLeave_of_listed listed listable, State.visits_leaveList on]; rfl
    · rw [recordAfterLeave_of_listed listed ne, State.record_leaveList on, State.record_modRecord_ne _ _ ne.symm,
        State.record_removeFromBucket (s := s.setRecord i r) sound.placed stands (by rw [State.record_setRecord_ne _ _ ne.symm]),
        State.record_setRecord_ne _ _ ne.symm]
    · rw [State.record_leaveList on, State.record_modRecord_self,
        State.record_removeFromBucket_self (s := s.setRecord i r) sound.placed stands, State.record_setRecord_self]

theorem VisitList.Counted.erase {v : VisitList} (counted : v.Counted) {b : Band} {k : Bucket} {i : Slot} (listable : b ≠ .low)
    (mem : i ∈ v.bucket b k) : ((v.setBucket b k ((v.bucket b k).erase i)).countDown b).Counted := by
  obtain ⟨full, near⟩ := counted
  have shorter := List.length_erase_of_mem mem
  have positive := List.length_pos_of_mem mem
  cases b with
  | low => exact absurd rfl listable
  | near =>
    refine ⟨full, ?_⟩
    have := listed_set v.near k ((v.near[k]).erase i)
    simp only [VisitList.bucket] at shorter positive
    simp only [VisitList.setBucket, VisitList.countDown, VisitList.bucket]
    omega
  | full =>
    refine ⟨?_, near⟩
    have := listed_set v.full k ((v.full[k]).erase i)
    simp only [VisitList.bucket] at shorter positive
    simp only [VisitList.setBucket, VisitList.countDown, VisitList.bucket]
    omega

theorem VisitList.Counted.append {v : VisitList} (counted : v.Counted) (b : Band) (k : Bucket) (i : Slot) :
    ((v.setBucket b k (v.bucket b k ++ [i])).countUp b).Counted := by
  obtain ⟨full, near⟩ := counted
  cases b with
  | low => exact ⟨full, near⟩
  | near =>
    refine ⟨full, ?_⟩
    have := listed_set v.near k (v.near[k] ++ [i])
    simp only [List.length_append, List.length_singleton] at this
    simp only [VisitList.setBucket, VisitList.countUp, VisitList.bucket]
    omega
  | full =>
    refine ⟨?_, near⟩
    have := listed_set v.full k (v.full[k] ++ [i])
    simp only [List.length_append, List.length_singleton] at this
    simp only [VisitList.setBucket, VisitList.countUp, VisitList.bucket]
    omega

/-- A list that a slot has left is sound, where the slot's record no longer asks for a place. -/
theorem Left.sound {s t : State} {i : Slot} (left : Left s i t) (sound : VisitListSound s) (off : (t.record i).links = none)
    (out : ¬(t.record i).Listable) : VisitListSound t := by
  cases listed : (s.record i).links with
  | none =>
    refine sound.of_same (left.visits.trans (visitsAfterLeave_of_unlisted listed)) i (fun j ne => ?_) (.inr ⟨listed, off, out⟩)
    rw [left.behind j ne, recordAfterLeave_of_unlisted listed ne]
    exact .refl _
  | some k =>
    have stands : (s.record i).place = some ((s.record i).band, k) := by rw [BinRecord.place, listed]; rfl
    have listable := sound.placed.ne_low stands
    have erased := sound.placed.erase stands
    have record : ∀ j ≠ i, t.record j = (s.record j).closeUp (s.record i).band k := fun j ne =>
      (left.behind j ne).trans (recordAfterLeave_of_listed listed ne)
    have fields : ∀ j ≠ i, t.record j = { s.record j with links := (t.record j).links } := fun j ne => by
      rw [record j ne]; exact BinRecord.closeUp_links ..
    have visits := left.visits.trans (visitsAfterLeave_of_listed listed listable)
    have places : ∀ j, (t.record j).place = if j = i then none else placeAfterLeave (s.record i).band k (s.record j).place := fun j => by
      by_cases ne : j = i
      · rw [if_pos ne, ne, BinRecord.place, off]; rfl
      · rw [if_neg ne, record j ne, BinRecord.place_closeUp]
    have listed_iff : ∀ j ≠ i, (t.record j).links.isSome = (s.record j).links.isSome := fun j ne => by
      rw [record j ne, BinRecord.closeUp]
      split
      next m links => split <;> simp [links]
      next links => rfl
    refine .of_placed ?_ (fun j => ?_) (fun j m links => ?_) ?_
    · intro c m j
      simp only [places]
      rw [visits, VisitList.bucket_step, VisitList.bucket_countDown]
      exact erased c m j
    · by_cases ne : j = i
      · subst ne; simp [off, out]
      · rw [listed_iff j ne, fields j ne]; exact sound.membership j
    · by_cases ne : j = i
      · subst ne; rw [off] at links; cases links
      · have moved : placeAfterLeave (s.record i).band k (s.record j).place = some ((t.record j).band, m) := by
          have here := places j
          rw [if_neg ne] at here
          rw [← here, BinRecord.place, links]; rfl
        rw [fields j ne]
        rcases placeAfterLeave_eq_some.1 moved with ⟨h, -⟩ | ⟨h, -⟩
        · rw [BinRecord.place, Option.map_eq_some_iff] at h
          obtain ⟨n, hn, e⟩ := h
          obtain ⟨-, rfl⟩ := Prod.mk.inj e
          exact (sound.place j _ hn).2
        · rw [BinRecord.place, Option.map_eq_some_iff] at h
          obtain ⟨n, hn, e⟩ := h
          obtain ⟨-, rfl⟩ := Prod.mk.inj e
          exact (sound.place j _ hn).2
    · rw [visits]
      exact VisitList.Counted.erase (v := s.visits) sound.counts listable (List.mem_of_getElem? ((sound.placed _ _ _).2 stands))

/-! ### JOIN and MOVE -/

theorem visitsAfterJoin_eq {b : Band} (listable : b ≠ .low) (v : VisitList) (i : Slot) (k : Bucket) :
    visitsAfterJoin v i b k = ((v.setBucket b k (v.bucket b k ++ [i])).countUp b).step := by
  cases b with
  | low => exact absurd rfl listable
  | near => rfl
  | full => rfl

end Sys2Proof.Machine

namespace Sys2Proof.Safety

open Sys2Proof.Machine

/-- A list that an unlisted slot has joined is sound, where the slot's record asks for the place. -/
theorem VisitListSound.join {s t : State} (sound : VisitListSound s) {i : Slot} {e : Nat} (off : (s.record i).links = none)
    (visits : ∃ n, t.visits = { visitsAfterJoin s.visits i (t.record i).band (bucketOf e) with epoch := n })
    (others : ∀ j ≠ i, t.record j = s.record j)
    (links : (t.record i).links =
      some { bucket := bucketOf e, position := (s.visits.bucket (t.record i).band (bucketOf e)).length })
    (estimate : (t.record i).estimate = some e) (listable : (t.record i).Listable) : VisitListSound t := by
  obtain ⟨n, visits⟩ := visits
  have unlisted : (s.record i).place = none := by rw [BinRecord.place, off]; rfl
  have joined := sound.placed.append listable.2.2 (bucketOf e) unlisted
  have places : ∀ j, (t.record j).place =
      if j = i then some ((t.record i).band, { bucket := bucketOf e, position := (s.visits.bucket (t.record i).band (bucketOf e)).length })
      else (s.record j).place := fun j => by
    by_cases ne : j = i
    · rw [if_pos ne, ne, BinRecord.place, links]; rfl
    · rw [if_neg ne, others j ne]
  rw [visitsAfterJoin_eq listable.2.2] at visits
  have buckets : ∀ c m, t.visits.bucket c m =
      (s.visits.setBucket (t.record i).band (bucketOf e) (s.visits.bucket (t.record i).band (bucketOf e) ++ [i])).bucket c m := fun c m => by
    rw [visits]
    refine Eq.trans ?_ (VisitList.bucket_countUp _ (t.record i).band c m)
    cases c <;> rfl
  refine .of_placed ?_ (fun j => ?_) (fun j m links' => ?_) ?_
  · intro c m j
    simp only [places]
    rw [buckets]
    exact joined c m j
  · by_cases ne : j = i
    · subst ne; simp [links, listable]
    · rw [others j ne]; exact sound.membership j
  · by_cases ne : j = i
    · subst ne; rw [links] at links'; cases links'; exact ⟨e, estimate, rfl⟩
    · rw [others j ne] at links' ⊢; exact (sound.place j m links').2
  · rw [visits]
    exact VisitList.Counted.append (v := s.visits) sound.counts _ _ i

end Sys2Proof.Safety

namespace Sys2Proof.Machine

open Sys2Proof.Safety

/-- From `s` to `t` nothing has moved but the Visit List and records. -/
def OnlyList (s t : State) : Prop :=
  ∃ (v : VisitList) (rs : Vector BinRecord 8192), t = { s with visits := v, bins := { s.bins with records := rs } }

theorem OnlyList.refl (s : State) : OnlyList s s := ⟨_, _, rfl⟩

theorem OnlyList.trans {s t u : State} (a : OnlyList s t) (b : OnlyList t u) : OnlyList s u := by
  obtain ⟨_, _, rfl⟩ := a
  obtain ⟨v, rs, rfl⟩ := b
  exact ⟨v, rs, rfl⟩

theorem OnlyList.eq {s t : State} (h : OnlyList s t) :
    t = { s with visits := t.visits, bins := { s.bins with records := t.bins.records } } := by
  obtain ⟨_, _, rfl⟩ := h
  rfl

theorem OnlyList.ite {p : Prop} [Decidable p] {s t u : State} (a : OnlyList s t) (b : OnlyList s u) :
    OnlyList s (if p then t else u) := by
  split
  · exact a
  · exact b

theorem State.setRecord_onlyList (s : State) (i : Slot) (r : BinRecord) : OnlyList s (s.setRecord i r) := ⟨_, _, rfl⟩

theorem State.modRecord_onlyList (s : State) (i : Slot) (f : BinRecord → BinRecord) : OnlyList s (s.modRecord i f) := ⟨_, _, rfl⟩

theorem State.visits_onlyList (s : State) (v : VisitList) : OnlyList s { s with visits := v } := ⟨_, _, rfl⟩

theorem State.removeFromBucket_onlyList (s : State) (i : Slot) (b : Band) (k : Bucket) : OnlyList s (s.removeFromBucket i b k) := by
  have moved : ∀ (l : List Slot) (t : State), OnlyList t (l.foldl (fun s j => s.modRecord j BinRecord.moveForward) t) := by
    intro l
    induction l with
    | nil => exact .refl
    | cons j l ih => exact fun t => (t.modRecord_onlyList j _).trans (ih _)
  exact (s.visits_onlyList _).trans (moved _ _)

theorem State.appendToBucket_onlyList (s : State) (i : Slot) (b : Band) (k : Bucket) : OnlyList s (s.appendToBucket i b k) := by
  unfold State.appendToBucket
  exact (s.visits_onlyList _).trans (State.modRecord_onlyList _ i _)

theorem State.joinList_onlyList (s : State) (i : Slot) (b : Band) (k : Bucket) : OnlyList s (s.joinList i b k) :=
  (s.appendToBucket_onlyList i b k).trans (State.visits_onlyList _ _)

theorem State.leaveList_onlyList (s : State) (i : Slot) (b : Band) : OnlyList s (s.leaveList i b) := by
  unfold State.leaveList
  split
  · exact .refl s
  · exact ((s.removeFromBucket_onlyList i b _).trans (State.modRecord_onlyList _ i _)).trans (State.visits_onlyList _ _)

theorem State.moveList_onlyList (s : State) (i : Slot) (b : Band) (k : Bucket) (c : Band) (m : Bucket) :
    OnlyList s (s.moveList i b k c m) :=
  ((s.removeFromBucket_onlyList i b k).trans (State.appendToBucket_onlyList _ i c m)).trans (State.visits_onlyList _ _)

theorem State.reconcile_onlyList (s : State) (i : Slot) (b : Band) (e : Nat) : OnlyList s (s.reconcile i b e) := by
  unfold State.reconcile
  split
  · exact .ite (.refl s) (s.joinList_onlyList ..)
  · exact .ite (s.leaveList_onlyList ..) (.ite (.refl s) (s.moveList_onlyList ..))

/-- A JOIN of a slot whose record has been rewritten, off a list where it stood nowhere (R106). -/
theorem State.joinList_joined (s : State) (i : Slot) (r : BinRecord) {b : Band} (listable : b ≠ .low) (k : Bucket) :
    (s.setRecord i r).joinList i b k =
      { s.setRecord i { r with links := some { bucket := k, position := (s.visits.bucket b k).length } } with
        visits := visitsAfterJoin s.visits i b k } := by
  rw [visitsAfterJoin_eq listable]
  have record : ({ s.setRecord i r with visits := s.visits.setBucket b k (s.visits.bucket b k ++ [i]) } : State).record i = r :=
    State.record_setRecord_self ..
  simp only [State.joinList, State.appendToBucket, State.modRecord, State.setRecord_visits]
  rw [record]
  simp only [State.setRecord, Vector.set_set]

/-- A MOVE of a slot whose record has been rewritten, its links kept, in a list that was sound (R108). -/
theorem State.moveList_left {s : State} (sound : VisitListSound s) {i : Slot} {m : VisitLinks} {r : BinRecord}
    (listed : (s.record i).links = some m) {b : Band} (listable : b ≠ .low) (k : Bucket) :
    let t := (s.setRecord i r).moveList i (s.record i).band m.bucket b k
    (∀ j ≠ i, t.record j = recordAfterLeave s i j) ∧
      t.record i = { r with links := some { bucket := k, position := ((visitsAfterLeave s i).bucket b k).length } } ∧
      t.visits = { visitsAfterJoin (visitsAfterLeave s i) i b k with epoch := s.visits.epoch + 1 } := by
  have stands : (s.record i).place = some ((s.record i).band, m) := by rw [BinRecord.place, listed]; rfl
  have held := sound.placed.ne_low stands
  have after := visitsAfterLeave_of_listed listed held
  let u := (s.setRecord i r).removeFromBucket i (s.record i).band m.bucket
  have moved : ∀ j, ((s.setRecord i r).moveList i (s.record i).band m.bucket b k).record j = (u.appendToBucket i b k).record j := fun _ => rfl
  have appended : ∀ j, (u.appendToBucket i b k).record j =
      if i = j then { u.record i with links := some { bucket := k, position := (u.visits.bucket b k).length } } else u.record j :=
    fun j => State.record_modRecord _ i j _
  have bucket : u.visits.bucket b k = (visitsAfterLeave s i).bucket b k := by
    rw [after, VisitList.bucket_step, VisitList.bucket_countDown, State.removeFromBucket_visits]; rfl
  refine ⟨fun j ne => ?_, ?_, ?_⟩
  · rw [moved, appended, if_neg ne.symm, recordAfterLeave_of_listed listed ne]
    rw [State.record_removeFromBucket (s := s.setRecord i r) sound.placed stands (by rw [State.record_setRecord_ne _ _ ne.symm]),
      State.record_setRecord_ne _ _ ne.symm]
  · rw [moved, appended, if_pos rfl, bucket,
      State.record_removeFromBucket_self (s := s.setRecord i r) sound.placed stands, State.record_setRecord_self]
  · change (((State.visits (State.appendToBucket _ i b k)).countDown _).countUp b).step = _
    rw [visitsAfterJoin_eq listable, after]
    change (((VisitList.setBucket (State.removeFromBucket _ i _ _).visits b k _).countDown _).countUp b).step = _
    rw [State.removeFromBucket_visits]
    generalize (s.record i).band = old at held
    cases old with
    | low => exact absurd rfl held
    | near | full =>
      cases b with
      | low => exact absurd rfl listable
      | near | full => rfl

/-! ### Reconciliation (R105) -/

/-- Reconciliation leaves a sound list, where the slot is ACTIVE and unmarked and its estimate is the one reconciled with: `r` is its record
after the estimate and the band have been worked, `s` the sound state before. -/
theorem State.reconcile_sound {s : State} (sound : VisitListSound s) {i : Slot} {r : BinRecord} {e : Nat}
    (links : r.links = (s.record i).links) (active : r.admin = .active) (unmarked : r.visitMark = false) (estimate : r.estimate = some e) :
    VisitListSound ((s.setRecord i r).reconcile i (s.record i).band e) := by
  have here : (s.setRecord i r).record i = r := State.record_setRecord_self ..
  have others : ∀ j ≠ i, (s.setRecord i r).record j = s.record j := fun j ne => State.record_setRecord_ne _ _ ne.symm
  unfold State.reconcile
  rw [here]
  cases listed : r.links with
  | none =>
    have off : (s.record i).links = none := links ▸ listed
    dsimp only
    split
    next low =>
      refine sound.of_same rfl i (fun j ne => by rw [others j ne]; exact .refl _) (.inr ⟨off, by rw [here, listed], ?_⟩)
      rw [here]; exact fun h => h.2.2 low
    next listable =>
      rw [State.joinList_joined s i r listable]
      have record : ∀ j, ({ s.setRecord i { r with links := some { bucket := bucketOf e, position := (s.visits.bucket r.band (bucketOf e)).length } }
          with visits := visitsAfterJoin s.visits i r.band (bucketOf e) } : State).record j =
          if i = j then { r with links := some { bucket := bucketOf e, position := (s.visits.bucket r.band (bucketOf e)).length } }
          else s.record j := fun j => State.record_setRecord s i j _
      have self := (record i).trans (if_pos rfl)
      refine sound.join (e := e) off ⟨(visitsAfterJoin s.visits i r.band (bucketOf e)).epoch, ?_⟩
        (fun j ne => (record j).trans (if_neg ne.symm)) ?_ ?_ ?_
      · rw [self]
      · rw [self]
      · rw [self]; exact estimate
      · rw [self]; exact ⟨active, unmarked, listable⟩
  | some m =>
    have on : (s.record i).links = some m := links ▸ listed
    have stands : (s.record i).place = some ((s.record i).band, m) := by rw [BinRecord.place, on]; rfl
    dsimp only
    split
    next low =>
      obtain ⟨left, self⟩ := State.leaveList_left sound links
      refine left.sound sound (by rw [self]) ?_
      rw [self]; exact fun h => h.2.2 low
    next listable =>
      split
      next stays =>
        have listable' := (sound.membership i).1 (by rw [on]; rfl)
        refine sound.of_same rfl i (fun j ne => by rw [others j ne]; exact .refl _) (.inl ?_)
        rw [here]
        exact ⟨active.trans listable'.1.symm, unmarked.trans listable'.2.1.symm, stays.1, links,
          fun k held _ => ⟨e, estimate, by rw [on] at held; cases held; exact stays.2⟩⟩
      next moves =>
        obtain ⟨behind, self, visits⟩ := State.moveList_left (r := r) sound on listable (bucketOf e)
        obtain ⟨left, off⟩ := State.leaveList_left sound (i := i) (r := { s.record i with band := .low }) rfl
        have between := left.sound sound (by rw [off]) (by rw [off]; exact fun h => h.2.2 rfl)
        refine between.join (e := e) (by rw [off]) ⟨s.visits.epoch + 1, ?_⟩ (fun j ne => ?_) ?_ ?_ ?_
        · rw [self, visits, left.visits]
        · rw [behind j ne, left.behind j ne]
        · rw [self, left.visits]
        · rw [self]; exact estimate
        · rw [self]; exact ⟨active, unmarked, listable⟩

end Sys2Proof.Machine

/-! PROOF. The device's laws, kept by every step. A step is a chain of changes, each of one part of the state; a change carries what the laws
about that part ask of it, so that each law is proved once over the changes, and each command once cut into them. -/

namespace Sys2Proof.Machine

open Sys2Proof.Safety

/-! ### Changes -/

/-- What the laws on fills, rings and counters ask of record `r` in slot `i`. -/
structure FitsAt (s : State) (i : Slot) (r : BinRecord) : Prop where
  cells : FillsInRange s → ∀ k : Index16, r.ring.cells[k] ≤ Config.maxFill
  estimate : FillsInRange s → ∀ e, r.estimate = some e → e ≤ Config.maxFill
  occupancy : ClassesSound s → RingsFit s → r.ring.occupancy ≤ 16
  counters : BinCountersFit (s.record i).counters → BinCountersFit r.counters

/-- From `s` to `t` nothing has moved but the Visit List and the links of records. -/
structure LinksOnly (s t : State) : Prop where
  only : OnlyList s t
  record : ∀ j, ∃ m, t.record j = { s.record j with links := m }

/-- A chain of changes from one state to another. `held` says that the frames that the part held at the start have permitted lengths: a frame
taken from a lane has left the state when it is forwarded. -/
inductive Change (held : Prop) : State → State → Prop where
  | refl (s : State) : Change held s s
  | trans {s t u : State} : Change held s t → Change held t u → Change held s u
  | stats (s : State) (x : Stats) : Change held s { s with stats := x }
  | lanes (s : State) (v : Vector LaneState 4)
      (fits : ∀ l : Lane, (s.lanes[l]).fifo.length ≤ Config.laneFifoDepth → (v[l]).fifo.length ≤ Config.laneFifoDepth)
      (frames : ∀ l : Lane, ∀ f ∈ (v[l]).fifo, f ∈ (s.lanes[l]).fifo ∨ FrameLength f.bytes) : Change held s { s with lanes := v }
  | classifier (s : State) (c : Classifier) (chains : ChainsFit s → ChainsFit { s with classifier := c }) :
      Change held s { s with classifier := c }
  | copies (s : State) (q : List CopyEntry) (fits : s.copies.length ≤ Config.copySetSize → q.length ≤ Config.copySetSize)
      (distinct : CopiesDistinct s → CopiesDistinct { s with copies := q }) : Change held s { s with copies := q }
  | stores (s : State) (x : Stores) (classes : ClassesSound s → ClassesSound { s with stores := x })
      (curves : FillsInRange s → ∀ (p : Index16) (k : Fin 33), (x.curves[p]).points[k] ≤ Config.maxFill) :
      Change held s { s with stores := x }
  | notices (s : State) (u : NoticeUnit)
      (fits : s.notices.queue.length ≤ Config.noticeQueueSize → u.queue.length ≤ Config.noticeQueueSize) :
      Change held s { s with notices := u }
  | egress (s : State) (e : Egress)
      (responses : s.egress.responses.length ≤ Config.responseFifoDepth → e.responses.length ≤ Config.responseFifoDepth)
      (forward : s.egress.forward.length ≤ Config.forwardFifoDepth → e.forward.length ≤ Config.forwardFifoDepth)
      (frames : held → ∀ r ∈ e.forward, r ∈ s.egress.forward ∨ FrameLength r.bytes)
      (starvation : s.egress.starvation ≤ Config.maxStarvation → e.starvation ≤ Config.maxStarvation) : Change held s { s with egress := e }
  | control (s : State) (m : Mgmt) (w : Sweep)
      (requests : s.mgmt.requests.length ≤ Config.requestFifoDepth → m.requests.length ≤ Config.requestFifoDepth)
      (processing : ProcessingSound s → ProcessingSound { s with mgmt := m, sweep := w }) :
      Change held s { s with mgmt := m, sweep := w }
  | transmit (s : State) (frames : List (List Byte)) (tx : Option TxSend)
      (fits : s.downlink.frames.length ≤ Config.downlinkFifoDepth → frames.length ≤ Config.downlinkFifoDepth)
      (lengths : ∀ f ∈ frames, f ∈ s.downlink.frames ∨ FrameLength f) :
      Change held s { s with downlink := { s.downlink with frames := frames, tx := tx } }
  | queue (s : State) (q : List ReEntry)
      (fewer : (q.map fun e => (e.slot, e.identifier)).Sublist (s.downlink.queue.map fun e => (e.slot, e.identifier))) :
      Change held s { s with downlink := { s.downlink with queue := q } }
  | request (s : State) (e : ReEntry) (running : s.mgmt.running = true) (space : s.downlink.queue.length < Config.requestQueueSize)
      (fresh : ∀ x ∈ s.downlink.queue, x.slot ≠ e.slot) (active : (s.record e.slot).admin = .active)
      (names : (s.record e.slot).identifier = e.identifier) (left : 1 ≤ (s.record e.slot).attempts) :
      Change held s { s with downlink := { s.downlink with queue := placeEntry e s.downlink.queue } }
  | discovery (s : State) (l : List DiscoveryEntry)
      (fits : s.bins.discovery.length ≤ Config.discoverySize → l.length ≤ Config.discoverySize)
      (identifiers : IdentifiersSound s → IdentifiersSound { s with bins := { s.bins with discovery := l } }) :
      Change held s { s with bins := { s.bins with discovery := l } }
  | started (s : State) (now : Word32) : Change held s (s.mapRecords fun r => r.started now)
  /-- Slot `i` keeps its bin; its record becomes `r`, and the Visit List follows. -/
  | work (s t : State) (i : Slot) (r : BinRecord) (bin : r.identifier = (s.record i).identifier)
      (kept : r.admin = .free ↔ (s.record i).admin = .free) (fits : FitsAt s i r)
      (requested : r.admin = (s.record i).admin ∧ (r.attempts = (s.record i).attempts ∨ (ClassesSound s → 1 ≤ r.attempts)) ∨
        ∀ e ∈ s.downlink.queue, e.slot ≠ i)
      (links : LinksOnly (s.setRecord i r) t) (visits : VisitListSound s → VisitListSound t) : Change held s t
  /-- Slot `i` takes or loses its bin, or starts it afresh: its record becomes `r`, and the directory and the Discovery List follow. -/
  | rebin (s : State) (i : Slot) (r : BinRecord) (d : Vector DirWay 16384) (l : List DiscoveryEntry)
      (identifiers : IdentifiersSound s →
        IdentifiersSound { s with bins := { directory := d, records := s.bins.records.set i r, discovery := l } })
      (fewer : l.length ≤ s.bins.discovery.length) (fits : FitsAt s i r)
      (idle : (s.record i).admin ≠ .active ∨ ∀ e ∈ s.downlink.queue, e.slot ≠ i)
      (visits : VisitListSound s → VisitListSound (s.setRecord i r)) :
      Change held s { s with bins := { directory := d, records := s.bins.records.set i r, discovery := l } }

/-- A choice between two chains. -/
theorem Change.ite {held : Prop} {p : Prop} [Decidable p] {s t u : State} (a : p → Change held s t) (b : ¬p → Change held s u) :
    Change held s (if p then t else u) := by
  split
  · exact a ‹_›
  · exact b ‹_›

end Sys2Proof.Machine

namespace Sys2Proof.Safety

open Sys2Proof.Machine

/-! ### The laws that read no links -/

theorem SizesFit.of_links {s t : State} (h : SizesFit s) (l : LinksOnly s t) : SizesFit t := by
  obtain ⟨v, rs, e⟩ := l.only
  rw [e]; exact { h with }

theorem FramesFit.of_links {s t : State} (h : FramesFit s) (l : LinksOnly s t) : FramesFit t := by
  obtain ⟨v, rs, e⟩ := l.only
  rw [e]; exact { h with }

theorem ProcessingSound.of_links {s t : State} (h : ProcessingSound s) (l : LinksOnly s t) : ProcessingSound t := by
  obtain ⟨v, rs, e⟩ := l.only
  rw [e]; exact { h with }

theorem CountersFit.of_links {s t : State} (h : CountersFit s) (l : LinksOnly s t) : CountersFit t := fun i => by
  obtain ⟨m, e⟩ := l.record i
  rw [e]; exact h i

theorem RingsFit.of_links {s t : State} (h : RingsFit s) (l : LinksOnly s t) : RingsFit t := fun i => by
  obtain ⟨m, e⟩ := l.record i
  rw [e]; exact h i

theorem FillsInRange.of_links {s t : State} (h : FillsInRange s) (l : LinksOnly s t) : FillsInRange t where
  curves := by
    obtain ⟨v, rs, e⟩ := l.only
    rw [e]; exact h.curves
  cells i := by
    obtain ⟨m, e⟩ := l.record i
    rw [e]; exact h.cells i
  estimates i := by
    obtain ⟨m, e⟩ := l.record i
    rw [e]; exact h.estimates i

theorem QueueSound.of_links {s t : State} (h : QueueSound s) (l : LinksOnly s t) : QueueSound t := by
  obtain ⟨v, rs, e⟩ := l.only
  have queue : t.downlink.queue = s.downlink.queue := by rw [e]
  refine ⟨queue ▸ h.onePerSlot, fun x hx => ?_⟩
  obtain ⟨m, e⟩ := l.record x.slot
  rw [e]; exact h.entries x (queue ▸ hx)

/-- The law on identifiers reads the directory, the Discovery List, and two fields of each record. -/
theorem IdentifiersSound.of_same {s t : State} (h : IdentifiersSound s) (directory : t.bins.directory = s.bins.directory)
    (discovery : t.bins.discovery = s.bins.discovery) (identifier : ∀ i, (t.record i).identifier = (s.record i).identifier)
    (free : ∀ i, (t.record i).admin = .free ↔ (s.record i).admin = .free) : IdentifiersSound t where
  oneSlot i j := by
    simp only [ne_eq, free, identifier]; exact h.oneSlot i j
  wayNames := by
    rw [directory]; simp only [ne_eq, free, identifier]; exact h.wayNames
  oneWay := by rw [directory]; exact h.oneWay
  found i := by
    rw [State.lookup_congr directory]; simp only [ne_eq, free, identifier]; exact h.found i
  discovery := by
    rw [discovery]; simp only [State.lookup_congr directory]; exact h.discovery

theorem IdentifiersSound.of_links {s t : State} (h : IdentifiersSound s) (l : LinksOnly s t) : IdentifiersSound t := by
  obtain ⟨v, rs, e⟩ := l.only
  refine h.of_same (by rw [e]) (by rw [e]) (fun i => ?_) (fun i => ?_)
  · obtain ⟨m, e⟩ := l.record i
    rw [e]
  · obtain ⟨m, e⟩ := l.record i
    rw [e]

/-! ### Record by record -/

/-- What holds of every record holds with one replaced. -/
theorem record_setRecord_of {P : BinRecord → Prop} {s : State} {i : Slot} {r : BinRecord} (all : ∀ j, P (s.record j)) (here : P r) (j : Slot) :
    P ((s.setRecord i r).record j) := by
  rw [State.record_setRecord]
  split
  · exact here
  · exact all j

end Sys2Proof.Safety

namespace Sys2Proof.Machine

open Sys2Proof.Safety

/-! ### Each law over the changes -/

theorem BinRecord.started_fields (r : BinRecord) (now : Word32) : r.started now = { r with lastHeard := (r.started now).lastHeard } := by
  unfold BinRecord.started
  split <;> rfl

theorem Change.sizes {held : Prop} {s t : State} (c : Change held s t) : SizesFit s → SizesFit t := by
  induction c with
  | refl s => exact id
  | trans _ _ a b => exact b ∘ a
  | lanes s v fits frames => exact fun h => { h with lanes := fun l => fits l (h.lanes l) }
  | copies s q fits distinct => exact fun h => { h with copies := fits h.copies }
  | notices s u fits => exact fun h => { h with notices := fits h.notices }
  | egress s e responses forward frames starvation =>
    exact fun h => { h with
      responses := responses h.responses, forward := forward h.forward, starvation := starvation h.starvation }
  | control s m w requests processing => exact fun h => { h with requests := requests h.requests }
  | transmit s frames tx fits lengths => exact fun h => { h with frames := fits h.frames }
  | queue s q fewer =>
    exact fun h => { h with queue := by simpa using Nat.le_trans fewer.length_le (by simpa using h.queue) }
  | request s e running space fresh active names left => exact fun h => { h with queue := by simpa [placeEntry_length] using space }
  | discovery s l fits identifiers => exact fun h => { h with discovery := fits h.discovery }
  | work s t i r bin kept fits requested links visits => exact fun h => SizesFit.of_links (s := s.setRecord i r) { h with } links
  | rebin s i r d l identifiers fewer fits idle visits => exact fun h => { h with discovery := Nat.le_trans fewer h.discovery }
  | stats | classifier | stores | started => exact fun h => { h with }

theorem Change.frames {held : Prop} {s t : State} (c : Change held s t) (ok : held) : FramesFit s → FramesFit t := by
  induction c with
  | refl s => exact id
  | trans _ _ a b => exact b ∘ a
  | lanes s v fits frames => exact fun h => { h with lanes := fun l f hf => (frames l f hf).elim (h.lanes l f) id }
  | egress s e responses forward frames starvation =>
    exact fun h => { h with forward := fun r hr => (frames ok r hr).elim (h.forward r) id }
  | transmit s frames tx fits lengths => exact fun h => { h with downlink := fun f hf => (lengths f hf).elim (h.downlink f) id }
  | work s t i r bin kept fits requested links visits => exact fun h => FramesFit.of_links (s := s.setRecord i r) { h with } links
  | stats | classifier | copies | stores | notices | control | queue | request | discovery | started | rebin =>
    exact fun h => { h with }

theorem Change.copiesDistinct {held : Prop} {s t : State} (c : Change held s t) : CopiesDistinct s → CopiesDistinct t := by
  induction c with
  | refl s => exact id
  | trans _ _ a b => exact b ∘ a
  | copies s q fits distinct => exact distinct
  | work s t i r bin kept fits requested links visits =>
    obtain ⟨v, rs, e⟩ := links.only
    rw [e]; exact id
  | stats | lanes | classifier | stores | notices | egress | control | transmit | queue | request | discovery | started | rebin =>
    exact id

theorem Change.classesSound {held : Prop} {s t : State} (c : Change held s t) : ClassesSound s → ClassesSound t := by
  induction c with
  | refl s => exact id
  | trans _ _ a b => exact b ∘ a
  | stores s x classes curves => exact classes
  | work s t i r bin kept fits requested links visits =>
    obtain ⟨v, rs, e⟩ := links.only
    rw [e]; exact id
  | stats | lanes | classifier | copies | notices | egress | control | transmit | queue | request | discovery | started | rebin =>
    exact id

theorem Change.chainsFit {held : Prop} {s t : State} (c : Change held s t) : ChainsFit s → ChainsFit t := by
  induction c with
  | refl s => exact id
  | trans _ _ a b => exact b ∘ a
  | classifier s c chains => exact chains
  | work s t i r bin kept fits requested links visits =>
    obtain ⟨v, rs, e⟩ := links.only
    rw [e]; exact id
  | stats | lanes | copies | stores | notices | egress | control | transmit | queue | request | discovery | started | rebin =>
    exact id

theorem Change.processingSound {held : Prop} {s t : State} (c : Change held s t) : ProcessingSound s → ProcessingSound t := by
  induction c with
  | refl s => exact id
  | trans _ _ a b => exact b ∘ a
  | control s m w requests processing => exact processing
  | queue s q fewer =>
    refine fun h => { h with standby := fun stopped => ⟨(h.standby stopped).1, ?_⟩ }
    have none_left := fewer
    rw [(h.standby stopped).2] at none_left
    exact List.map_eq_nil_iff.1 (List.sublist_nil.1 none_left)
  | request s e running space fresh active names left =>
    exact fun h => { h with standby := fun stopped => absurd (running.symm.trans stopped) (by decide) }
  | work s t i r bin kept fits requested links visits => exact fun h => ProcessingSound.of_links (s := s.setRecord i r) { h with } links
  | stats | lanes | classifier | copies | stores | notices | egress | transmit | discovery | started | rebin =>
    exact fun h => { h with }

theorem Change.countersFit {held : Prop} {s t : State} (c : Change held s t) : CountersFit s → CountersFit t := by
  induction c with
  | refl s => exact id
  | trans _ _ a b => exact b ∘ a
  | started s now =>
    intro h i
    rw [State.record_mapRecords, BinRecord.started_fields]
    exact h i
  | work s t i r bin kept fits requested links visits =>
    exact fun h => CountersFit.of_links (record_setRecord_of (P := fun r => BinCountersFit r.counters) h (fits.counters (h i))) links
  | rebin s i r d l identifiers fewer fits idle visits =>
    exact fun h => record_setRecord_of (P := fun r => BinCountersFit r.counters) h (fits.counters (h i))
  | stats | lanes | classifier | copies | stores | notices | egress | control | transmit | queue | request | discovery => exact id

theorem Change.ringsFit {held : Prop} {s t : State} (c : Change held s t) :
    ClassesSound s → RingsFit s → RingsFit t := by
  induction c with
  | refl s => exact fun _ => id
  | trans first _ a b => exact fun classes h => b (first.classesSound classes) (a classes h)
  | started s now =>
    intro _ h i
    rw [State.record_mapRecords, BinRecord.started_fields]
    exact h i
  | work s t i r bin kept fits requested links visits =>
    exact fun classes h => RingsFit.of_links (record_setRecord_of (P := fun r => r.ring.occupancy ≤ 16) h (fits.occupancy classes h)) links
  | rebin s i r d l identifiers fewer fits idle visits =>
    exact fun classes h => record_setRecord_of (P := fun r => r.ring.occupancy ≤ 16) h (fits.occupancy classes h)
  | stats | lanes | classifier | copies | stores | notices | egress | control | transmit | queue | request | discovery =>
    exact fun _ => id

theorem FillsInRange_setRecord {s : State} {i : Slot} {r : BinRecord} (fits : FitsAt s i r) (h : FillsInRange s) :
    FillsInRange (s.setRecord i r) where
  curves := h.curves
  cells := record_setRecord_of (P := fun r => ∀ k : Index16, r.ring.cells[k] ≤ Config.maxFill) h.cells (fits.cells h)
  estimates := record_setRecord_of (P := fun r => ∀ e, r.estimate = some e → e ≤ Config.maxFill) h.estimates (fits.estimate h)

theorem Change.fillsInRange {held : Prop} {s t : State} (c : Change held s t) : FillsInRange s → FillsInRange t := by
  induction c with
  | refl s => exact id
  | trans _ _ a b => exact b ∘ a
  | stores s x classes curves => exact fun h => { h with curves := curves h }
  | started s now =>
    intro h
    refine { curves := h.curves, cells := fun i => ?_, estimates := fun i => ?_ }
    · rw [State.record_mapRecords, BinRecord.started_fields]; exact h.cells i
    · rw [State.record_mapRecords, BinRecord.started_fields]; exact h.estimates i
  | work s t i r bin kept fits requested links visits => exact fun h => (FillsInRange_setRecord fits h).of_links links
  | rebin s i r d l identifiers fewer fits idle visits => exact fun h => { FillsInRange_setRecord fits h with }
  | stats | lanes | classifier | copies | notices | egress | control | transmit | queue | request | discovery =>
    exact fun h => { h with }

theorem Change.identifiersSound {held : Prop} {s t : State} (c : Change held s t) : IdentifiersSound s → IdentifiersSound t := by
  induction c with
  | refl s => exact id
  | trans _ _ a b => exact b ∘ a
  | discovery s l fits identifiers => exact identifiers
  | started s now =>
    refine fun h => h.of_same rfl rfl (fun i => ?_) (fun i => ?_)
    all_goals rw [State.record_mapRecords, BinRecord.started_fields]
  | work s t i r bin kept fits requested links visits =>
    refine fun h => IdentifiersSound.of_links (s := s.setRecord i r) (h.of_same rfl rfl (fun j => ?_) (fun j => ?_)) links
    · rw [State.record_setRecord]
      split
      next same => subst same; exact bin
      next => rfl
    · rw [State.record_setRecord]
      split
      next same => subst same; exact kept
      next => rfl
  | rebin s i r d l identifiers fewer fits idle visits => exact identifiers
  | stats | lanes | classifier | copies | stores | notices | egress | control | transmit | queue | request =>
    exact fun h => { h with }

theorem Change.queueSound {held : Prop} {s t : State} (c : Change held s t) : ClassesSound s → QueueSound s → QueueSound t := by
  induction c with
  | refl s => exact fun _ => id
  | trans first _ a b => exact fun classes h => b (first.classesSound classes) (a classes h)
  | queue s q fewer =>
    refine fun _ h => ⟨?_, fun e he => ?_⟩
    · have slots := fewer.map Prod.fst
      simp only [List.map_map, Function.comp_def] at slots
      exact h.onePerSlot.sublist slots
    · obtain ⟨x, hx, same⟩ := List.mem_map.1 (fewer.subset (List.mem_map_of_mem he))
      obtain ⟨slot, identifier⟩ := Prod.mk.inj same
      have := h.entries x hx
      rw [slot, identifier] at this
      exact this
  | request s e running space fresh active names left =>
    refine fun _ h => ⟨?_, fun x hx => ?_⟩
    · rw [((placeEntry_perm e s.downlink.queue).map ReEntry.slot).nodup_iff, List.map_cons, List.nodup_cons]
      refine ⟨?_, h.onePerSlot⟩
      rw [List.mem_map]
      rintro ⟨x, hx, same⟩
      exact fresh x hx same
    · rcases (mem_placeEntry e x _).1 hx with rfl | hx
      · exact ⟨active, names, left⟩
      · exact h.entries x hx
  | started s now =>
    refine fun _ h => ⟨h.onePerSlot, fun e he => ?_⟩
    rw [State.record_mapRecords, BinRecord.started_fields]
    exact h.entries e he
  | work s t i r bin kept fits requested links visits =>
    refine fun classes h => QueueSound.of_links (s := s.setRecord i r) ⟨h.onePerSlot, fun e he => ?_⟩ links
    obtain ⟨active, names, left⟩ := h.entries e he
    rw [State.record_setRecord]
    split
    next same =>
      subst same
      rcases requested with ⟨admin, attempts⟩ | absent
      · refine ⟨admin.trans active, bin.trans names, ?_⟩
        rcases attempts with attempts | refilled
        · rw [attempts]; exact left
        · exact refilled classes
      · exact absurd rfl (absent e he)
    next => exact ⟨active, names, left⟩
  | rebin s i r d l identifiers fewer fits idle visits =>
    refine fun _ h => ⟨h.onePerSlot, fun e he => ?_⟩
    obtain ⟨active, names, left⟩ := h.entries e he
    have elsewhere : i ≠ e.slot := by
      rintro rfl
      rcases idle with idle | absent
      · exact idle active
      · exact absent e he rfl
    change ((s.setRecord i r).record e.slot).admin = _ ∧ ((s.setRecord i r).record e.slot).identifier = _ ∧
      1 ≤ ((s.setRecord i r).record e.slot).attempts
    rw [State.record_setRecord_ne _ _ elsewhere]
    exact ⟨active, names, left⟩
  | stats | lanes | classifier | copies | stores | notices | egress | control | transmit | discovery =>
    exact fun _ h => { h with }

theorem Change.visitListSound {held : Prop} {s t : State} (c : Change held s t) : VisitListSound s → VisitListSound t := by
  induction c with
  | refl s => exact id
  | trans _ _ a b => exact b ∘ a
  | started s now =>
    refine fun h => h.of_same rfl 0 (fun j _ => ?_) (.inl ?_)
    all_goals
      rw [State.record_mapRecords, BinRecord.started_fields]
      exact .of_eq rfl rfl rfl rfl rfl
  | work s t i r bin kept fits requested links visits => exact visits
  | rebin s i r d l identifiers fewer fits idle visits => exact fun h => { visits h with }
  | stats | lanes | classifier | copies | stores | notices | egress | control | transmit | queue | request | discovery =>
    exact fun h => { h with }

end Sys2Proof.Machine

/-! PROOF. The work at a Bin Record as changes, and what it keeps of the record. -/

namespace Sys2Proof.Machine

open Sys2Proof.Safety

/-! ### Bounds -/

theorem inc16_le (n : Nat) : inc16 n ≤ Config.max16 := satAdd_le ..

theorem ClassDesc.ringLength_le {c : ClassDesc} (h : c.inRange = true) : c.ringLength ≤ 16 := by
  simp only [ClassDesc.inRange, Bool.and_eq_true, Bool.or_eq_true, beq_iff_eq] at h
  omega

theorem ClassDesc.one_le_maxAttempts {c : ClassDesc} (h : c.inRange = true) : 1 ≤ c.maxAttempts := by
  simp only [ClassDesc.inRange, Bool.and_eq_true, decide_eq_true_eq] at h
  omega

/-- A fill lies among the points of its page (R83). -/
theorem curveFill_le {p : CurvePage} {n : Nat} (h : ∀ k : Fin 33, p.points[k] ≤ n) (d : Nat) : curveFill p d ≤ n := by
  have points : ∀ i, i ≤ 32 → p.point i ≤ n := fun i hi => by
    have := h ⟨i, by omega⟩
    simpa [CurvePage.point, List.getD_eq_getElem?_getD, show i < 33 by omega] using this
  by_cases below : d < p.origin
  · rw [curveFill_below below]; exact points 0 (by omega)
  by_cases beyond : p.origin + 32 * 2 ^ p.exponent ≤ d
  · rw [curveFill_beyond beyond]; exact points 32 (by omega)
  obtain ⟨x, rfl⟩ := Nat.exists_eq_add_of_le (Nat.le_of_not_lt below)
  have positive : 0 < 2 ^ p.exponent := by positivity
  have segment : x / 2 ^ p.exponent < 32 := (Nat.div_lt_iff_lt_mul positive).2 (by omega)
  have between := ((curveInterpolatesBetweenNeighbours p (p.origin + x)).2.2 (x / 2 ^ p.exponent) (x % 2 ^ p.exponent) segment
    (Nat.mod_lt _ positive) (by rw [Nat.add_assoc, Nat.mul_comm, Nat.div_add_mod])).2.2
  exact between.trans (max_le (points _ (by omega)) (points _ (by omega)))

/-! ### What the work keeps of a record -/

/-- The fields that the work after the acceptance update keeps. -/
def BinRecord.kept (r : BinRecord) : BinRecord :=
  { BinRecord.free with
    identifier := r.identifier, admin := r.admin, cls := r.cls, profileFilter := r.profileFilter, lastSequence := r.lastSequence
    lastArrival := r.lastArrival, lanesHeard := r.lanesHeard, bestRssi := r.bestRssi
    counters := { BinCounters.zero with
      received := r.counters.received, applied := r.counters.applied, missedByGap := r.counters.missedByGap } }

/-- From `s` to `t` slot `i` has kept these fields, and the other records all but their visit links. -/
structure SlotKept (i : Slot) (s t : State) : Prop where
  others : ∀ j ≠ i, t.record j = { s.record j with links := (t.record j).links }
  here : (t.record i).kept = (s.record i).kept

theorem SlotKept.refl (i : Slot) (s : State) : SlotKept i s s := ⟨fun _ _ => rfl, rfl⟩

theorem SlotKept.trans {i : Slot} {s t u : State} (a : SlotKept i s t) (b : SlotKept i t u) : SlotKept i s u where
  others j ne := by rw [b.others j ne, a.others j ne]
  here := b.here.trans a.here

theorem SlotKept.ite {i : Slot} {p : Prop} [Decidable p] {s t u : State} (a : SlotKept i s t) (b : SlotKept i s u) :
    SlotKept i s (if p then t else u) := by
  split
  · exact a
  · exact b

theorem SlotKept.admin {i : Slot} {s t : State} (h : SlotKept i s t) : (t.record i).admin = (s.record i).admin :=
  (congrArg BinRecord.admin h.here : (t.record i).kept.admin = (s.record i).kept.admin)

/-- What changes no record keeps every slot. -/
theorem SlotKept.of_record {i : Slot} {s t : State} (h : ∀ j, t.record j = s.record j) : SlotKept i s t :=
  ⟨fun j _ => by rw [h j], by rw [h i]⟩

theorem SlotKept.of_links {i : Slot} {s t : State} (h : ∀ j, ∃ m, t.record j = { s.record j with links := m }) : SlotKept i s t where
  others j _ := by
    obtain ⟨m, e⟩ := h j
    rw [e]
  here := by
    obtain ⟨m, e⟩ := h i
    rw [e]; rfl

theorem State.setRecord_slotKept {s : State} {i : Slot} {r : BinRecord} (h : r.kept = (s.record i).kept) : SlotKept i s (s.setRecord i r) where
  others j ne := by rw [State.record_setRecord_ne _ _ ne.symm]
  here := by rw [State.record_setRecord_self, h]

theorem State.modRecord_slotKept {s : State} {i : Slot} {f : BinRecord → BinRecord} (h : (f (s.record i)).kept = (s.record i).kept) :
    SlotKept i s (s.modRecord i f) := State.setRecord_slotKept h

theorem State.modCounters_slotKept (s : State) (i : Slot) (f : Counters → Counters) : SlotKept i s (s.modCounters f) := .of_record fun _ => rfl

theorem State.notify_slotKept (s : State) (i : Slot) (n : Notice) : SlotKept i s (s.notify n) := .of_record (s.record_notify n)

theorem State.notifySlot_slotKept (s : State) (i j : Slot) (b : NoticeBody) : SlotKept i s (s.notifySlot j b) := s.notify_slotKept i _

theorem State.changeBand_slotKept (s : State) (i : Slot) (b : Band) (e : Nat) : SlotKept i s (s.changeBand i b e) :=
  .ite (.refl i s) ((State.modRecord_slotKept rfl).trans (State.notifySlot_slotKept _ i i _))

theorem State.confirm_slotKept (s : State) (i : Slot) (e : Nat) : SlotKept i s (s.confirm i e) :=
  ((State.modRecord_slotKept rfl).trans (State.changeBand_slotKept _ i _ e)).trans (.of_links (State.reconcile_links _ i _ e))

theorem State.arrival_slotKept (s : State) (i : Slot) (c : Bool) : SlotKept i s (s.arrival i c) :=
  .ite ((State.modRecord_slotKept rfl).trans (State.notifySlot_slotKept _ i i _)) (State.modRecord_slotKept rfl)

theorem State.setPending_slotKept (s : State) (i : Slot) (b : Bool) : SlotKept i s (s.setPending i b) := State.modRecord_slotKept rfl

theorem State.requestReMeasure_slotKept (s : State) (i : Slot) : SlotKept i s (s.requestReMeasure i) := by
  rcases s.requestReMeasure_cases i with ⟨-, e⟩ | ⟨-, -, e⟩ | ⟨-, -, e⟩
  all_goals rw [e]
  · exact s.setPending_slotKept i false
  · exact (s.modCounters_slotKept i _).trans (State.setPending_slotKept _ i true)
  · exact .trans (t := { s with downlink := { s.downlink with queue := placeEntry (s.newEntry i) s.downlink.queue } })
      (.of_record fun _ => rfl) (State.setPending_slotKept _ i false)

theorem State.declareSuspect_slotKept (s : State) (i : Slot) (c : Trigger) : SlotKept i s (s.declareSuspect i c) :=
  .ite ((State.modRecord_slotKept rfl).trans (State.notifySlot_slotKept _ i i _)) (State.modRecord_slotKept rfl)

theorem State.unusableReading_slotKept (s : State) (i : Slot) (c : Option Trigger) : SlotKept i s (s.unusableReading i c) :=
  .ite (.refl i s) (.ite (.refl i s) (.ite (s.declareSuspect_slotKept i _) (s.requestReMeasure_slotKept i)))

theorem State.restore_slotKept (s : State) (i : Slot) : SlotKept i s (s.restore i) :=
  .ite ((State.modRecord_slotKept rfl).trans (State.notifySlot_slotKept _ i i _)) (State.modRecord_slotKept rfl)

theorem State.estimate_slotKept (s : State) (i : Slot) : SlotKept i s (s.estimate i) := by
  unfold State.estimate
  exact .ite ((State.modRecord_slotKept rfl).trans (State.modCounters_slotKept _ i _)) (State.modRecord_slotKept rfl)

theorem State.applied_slotKept (s : State) (i : Slot) : SlotKept i s (s.applied i) := by
  unfold State.applied
  exact ((s.estimate_slotKept i).trans (State.confirm_slotKept _ i _)).trans (State.restore_slotKept _ i)

theorem State.collect_slotKept (s : State) (i : Slot) (fill : Nat) : SlotKept i s (s.collect i fill) := by
  unfold State.collect
  exact (((s.notifySlot_slotKept i i _).trans (.of_links (State.leaveList_links _ i _))).trans (State.modRecord_slotKept rfl)).trans
    (State.modCounters_slotKept _ i _)

theorem State.storeFill_slotKept (s : State) (i : Slot) (fill : Nat) : SlotKept i s (s.storeFill i fill) := by
  unfold State.storeFill
  exact State.modRecord_slotKept rfl

theorem State.rejectRise_slotKept (s : State) (i : Slot) : SlotKept i s (s.rejectRise i) := by
  unfold State.rejectRise
  exact ((State.modRecord_slotKept rfl).trans (State.modCounters_slotKept _ i _)).trans (State.unusableReading_slotKept _ i _)

theorem State.workFill_slotKept (s : State) (i : Slot) (d : Nat) (l : Liveness) : SlotKept i s (s.workFill i d l) := by
  unfold State.workFill
  exact .ite ((s.collect_slotKept i _).trans (State.applied_slotKept _ i))
    (.ite (s.rejectRise_slotKept i) ((s.storeFill_slotKept i _).trans (State.applied_slotKept _ i)))

theorem State.lidLatch_slotKept (s : State) (i : Slot) (x : Sample) : SlotKept i s (s.lidLatch i x) := by
  unfold State.lidLatch
  split
  · exact .refl i s
  · exact (State.modRecord_slotKept rfl).trans (State.notifySlot_slotKept _ i i _)

theorem State.tiltLatch_slotKept (s : State) (i : Slot) (x : Sample) : SlotKept i s (s.tiltLatch i x) := by
  unfold State.tiltLatch
  split
  · exact .refl i s
  · exact (State.modRecord_slotKept rfl).trans (State.notifySlot_slotKept _ i i _)

theorem State.heatLatch_slotKept (s : State) (i : Slot) (x : Sample) : SlotKept i s (s.heatLatch i x) := by
  unfold State.heatLatch
  split
  · exact .refl i s
  · exact (State.modRecord_slotKept rfl).trans (State.notifySlot_slotKept _ i i _)

theorem State.heard_slotKept (s : State) (i : Slot) (x : Sample) : SlotKept i s (s.heard i x) :=
  ((((State.modRecord_slotKept rfl).trans (State.lidLatch_slotKept _ i x)).trans (State.tiltLatch_slotKept _ i x)).trans
    (.ite (State.notifySlot_slotKept _ i i _) (.refl i _))).trans (State.heatLatch_slotKept _ i x)

/-- The state of an accepted Sample from which S1 goes on: counted where the reading is marked (R80 to R82). -/
def State.countMarked (s : State) (i : Slot) (marked : Bool) : State :=
  if marked then
    (s.modBinCounters i fun k => { k with marked := inc16 k.marked }).modCounters fun k => { k with marked := inc32 k.marked }
  else s

/-- The work of an accepted Sample: ended by the RANGE policy, or heard and worked as a marked or an unmarked reading. -/
theorem State.workAccepted_eq (s : State) (i : Slot) (x : Sample) (contiguous : Bool) :
    s.workAccepted i x contiguous =
      let distance := distanceOf x.kind x.raw x.temperature
      let fails := rangeFails (s.classOf i) x.raw distance
      let tilted := decide (x.tilt = some true)
      let s' := s.countMarked i (fails || tilted)
      let heard := s'.heard i x
      if fails && !tilted && decide (s'.mgmt.params.rangePolicy = .drop) then s'
      else if fails || tilted then (heard.arrival i contiguous).unusableReading i (if tilted then none else some .range)
      else (heard.arrival i contiguous).workFill i distance (heard.record i).liveness := rfl

theorem State.countMarked_slotKept (s : State) (i : Slot) (m : Bool) : SlotKept i s (s.countMarked i m) :=
  .ite ((State.modRecord_slotKept rfl).trans (State.modCounters_slotKept _ i _)) (.refl i s)

theorem State.workAccepted_slotKept (s : State) (i : Slot) (x : Sample) (c : Bool) : SlotKept i s (s.workAccepted i x c) := by
  rw [State.workAccepted_eq]
  have counted := s.countMarked_slotKept i (rangeFails (s.classOf i) x.raw (distanceOf x.kind x.raw x.temperature) || decide (x.tilt = some true))
  have arrived := (counted.trans (State.heard_slotKept _ i x)).trans (State.arrival_slotKept _ i c)
  exact .ite counted (.ite (arrived.trans (State.unusableReading_slotKept _ i _)) (arrived.trans (State.workFill_slotKept _ i _ _)))

theorem State.profileMatch_slotKept (s : State) (i : Slot) (x : Sample) : SlotKept i s (s.profileMatch i x) :=
  .ite (State.modRecord_slotKept rfl)
    (.ite ((State.modRecord_slotKept rfl).trans (State.notifySlot_slotKept _ i i _)) (State.modRecord_slotKept rfl))

/-! ### Shared updates as changes -/

section
variable {held : Prop} (s : State)

theorem State.notify_change (n : Notice) : Change held s (s.notify n) := by
  have fits := s.notify_length_le n
  rcases s.notify_cases n with ⟨_, e⟩ | ⟨_, e⟩
  all_goals
    rw [e] at fits ⊢
    exact .trans (.notices s _ fits) (.stats _ _)

theorem State.notifySlot_change (i : Slot) (b : NoticeBody) : Change held s (s.notifySlot i b) := s.notify_change _

theorem State.modCounters_change (f : Counters → Counters) : Change held s (s.modCounters f) := .stats s _

theorem State.modLaneCounters_change (l : Lane) (f : LaneCounters → LaneCounters) : Change held s (s.modLaneCounters l f) := .stats s _

theorem LinksOnly.refl : LinksOnly s s := ⟨.refl s, fun _ => ⟨_, rfl⟩⟩

/-- A record replaced by one that the laws do not tell from it, but for an attempt count that stays, is refilled, or is asked for by no
queued re-measure. -/
theorem State.setRecord_change {i : Slot} {r : BinRecord} (bin : r.identifier = (s.record i).identifier)
    (visit : SameVisit (s.record i) r) (fits : FitsAt s i r)
    (attempts : r.attempts = (s.record i).attempts ∨ (ClassesSound s → 1 ≤ r.attempts) ∨ ∀ e ∈ s.downlink.queue, e.slot ≠ i) :
    Change held s (s.setRecord i r) := by
  refine .work s _ i r bin (by rw [visit.admin]) fits ?_ (.refl _) fun h => ?_
  · rcases attempts with same | refilled | absent
    · exact .inl ⟨visit.admin, .inl same⟩
    · exact .inl ⟨visit.admin, .inr refilled⟩
    · exact .inr absent
  · exact h.of_same rfl i (fun j ne => by rw [State.record_setRecord_ne _ _ ne.symm]; exact .refl _)
      (.inl (by rw [State.record_setRecord_self]; exact visit))

end

/-- Ring and estimate kept, and counters that still fit. -/
theorem FitsAt.of_ring {s : State} {i : Slot} {r : BinRecord} (ring : r.ring = (s.record i).ring) (estimate : r.estimate = (s.record i).estimate)
    (counters : BinCountersFit (s.record i).counters → BinCountersFit r.counters) : FitsAt s i r where
  cells h := ring ▸ h.cells i
  estimate h e he := h.estimates i e (estimate ▸ he)
  occupancy _ h := ring ▸ h i
  counters := counters

/-- What the laws read of a record, all but its counters. -/
structure SameLaws (r q : BinRecord) : Prop where
  identifier : q.identifier = r.identifier
  admin : q.admin = r.admin
  ring : q.ring = r.ring
  estimate : q.estimate = r.estimate
  mark : q.visitMark = r.visitMark
  band : q.band = r.band
  attempts : q.attempts = r.attempts
  links : q.links = r.links

/-- A change of other fields, the counters kept in their range. -/
theorem State.modRecord_change {held : Prop} {s : State} {i : Slot} {f : BinRecord → BinRecord}
    (same : SameLaws (s.record i) (f (s.record i)))
    (counters : BinCountersFit (s.record i).counters → BinCountersFit (f (s.record i)).counters) : Change held s (s.modRecord i f) :=
  s.setRecord_change same.identifier (.of_eq same.admin same.mark same.band same.estimate same.links)
    (.of_ring same.ring same.estimate counters) (.inl same.attempts)

/-- A change of fields that no law reads. -/
theorem State.modRecord_change_of_counters {held : Prop} {s : State} {i : Slot} {f : BinRecord → BinRecord}
    (same : SameLaws (s.record i) (f (s.record i))) (counters : (f (s.record i)).counters = (s.record i).counters) :
    Change held s (s.modRecord i f) := State.modRecord_change same fun h => counters ▸ h

/-- Per-bin counters changed within their range. -/
theorem State.modBinCounters_change {held : Prop} {s : State} {i : Slot} {f : BinCounters → BinCounters}
    (h : BinCountersFit (s.record i).counters → BinCountersFit (f (s.record i).counters)) : Change held s (s.modBinCounters i f) :=
  State.modRecord_change ⟨rfl, rfl, rfl, rfl, rfl, rfl, rfl, rfl⟩ h

/-! ### Liveness and re-measures as changes -/

section
variable {held : Prop} (s : State) (i : Slot)

theorem State.setPending_change (b : Bool) : Change held s (s.setPending i b) :=
  State.modRecord_change_of_counters ⟨rfl, rfl, rfl, rfl, rfl, rfl, rfl, rfl⟩ rfl

theorem State.arrival_change (c : Bool) : Change held s (s.arrival i c) :=
  have written := State.modRecord_change_of_counters ⟨rfl, rfl, rfl, rfl, rfl, rfl, rfl, rfl⟩ rfl
  .ite (fun _ => written.trans (State.notifySlot_change _ i _)) fun _ => written

theorem State.visit_change : Change held s (s.visit i) :=
  have written := State.modRecord_change_of_counters ⟨rfl, rfl, rfl, rfl, rfl, rfl, rfl, rfl⟩ rfl
  .ite (fun _ => written.trans (State.notifySlot_change _ i _)) fun _ => written

theorem State.declareSuspect_change (c : Trigger) : Change held s (s.declareSuspect i c) :=
  have written := State.modRecord_change_of_counters ⟨rfl, rfl, rfl, rfl, rfl, rfl, rfl, rfl⟩ rfl
  .ite (fun _ => written.trans (State.notifySlot_change _ i _)) fun _ => written

variable {s i}

theorem State.requestReMeasure_change (running : s.mgmt.running = true) (active : (s.record i).admin = .active)
    (left : (s.record i).attempts ≠ 0) : Change held s (s.requestReMeasure i) := by
  rcases s.requestReMeasure_cases i with ⟨-, e⟩ | ⟨-, -, e⟩ | ⟨fresh, space, e⟩
  all_goals rw [e]
  · exact s.setPending_change i false
  · exact (s.modCounters_change _).trans (State.setPending_change _ i true)
  · exact (Change.request s (s.newEntry i) running space fresh active rfl (Nat.pos_of_ne_zero left)).trans (State.setPending_change _ i false)

theorem State.unusableReading_change (running : s.mgmt.running = true) (active : (s.record i).admin = .active) (c : Option Trigger) :
    Change held s (s.unusableReading i c) :=
  .ite (fun _ => .refl s) fun _ => .ite (fun _ => .refl s) fun _ =>
    .ite (fun _ => s.declareSuspect_change i _) fun left => State.requestReMeasure_change running active left

theorem State.restore_change : Change held s (s.restore i) :=
  have written : Change held s (s.modRecord i fun x =>
      { x with attempts := (s.classOf i).maxAttempts, pendingFlag := false, sensor := .normal }) :=
    s.setRecord_change rfl (.of_eq rfl rfl rfl rfl rfl) (.of_ring rfl rfl id)
      (.inr (.inl fun classes => ClassDesc.one_le_maxAttempts (classes _).1))
  .ite (fun _ => written.trans (State.notifySlot_change _ i _)) fun _ => written

end

end Sys2Proof.Machine

/-! PROOF. The fill stages as changes: the ring, the estimate with its band confirmation, and the collection. -/

namespace Sys2Proof.Machine

open Sys2Proof.Safety

/-! ### Band confirmation (R96 to R100) -/

/-- A list cut before the push and again after it is the list cut once. -/
theorem pushCandidate_eq (nC : Nat) (b : Band) (l : List Band) : pushCandidate nC b l = (b :: l).take nC := by
  cases nC with
  | zero => rfl
  | succ n => simp only [pushCandidate, List.take_succ_cons, List.take_take]; rw [min_eq_left (by omega)]

/-- A notice reads no record. -/
theorem State.setRecord_notify (s : State) (i : Slot) (r : BinRecord) (n : Notice) :
    (s.setRecord i r).notify n = (s.notify n).setRecord i r := by
  unfold State.notify
  by_cases room : s.notices.queue.length < Config.noticeQueueSize
  · rw [if_pos room]; exact if_pos room
  · rw [if_neg room]; exact if_neg room

/-- The record that band confirmation writes (R98, R100): the candidate list with the new candidate, and the band that the test gives. -/
def State.confirmed (s : State) (i : Slot) (e : Nat) : BinRecord :=
  let r := s.record i
  let c := s.classOf i
  let list := (candidateBand c r.band e :: r.candidates).take c.nC
  let new := confirmedBand c.kC list r.band
  { r with candidates := list, band := new, bandSince := if new = r.band then r.bandSince else s.mgmt.secs }

/-- Band confirmation: the record written, a BAND notice where the band moves, and the place reconciled. -/
theorem State.confirm_eq (s : State) (i : Slot) (e : Nat) :
    s.confirm i e =
      (if (s.confirmed i e).band = (s.record i).band then s.setRecord i (s.confirmed i e)
        else (s.setRecord i (s.confirmed i e)).notify
          { time := s.mgmt.secs, slot := some i, identifier := some (s.record i).identifier
            body := .band (s.record i).band (s.confirmed i e).band e }).reconcile i (s.record i).band e := by
  simp only [State.confirm, State.confirmed, pushCandidate_eq, State.changeBand, State.record_modRecord_self]
  split
  next same => simp only [State.modRecord, same]
  next moved => simp [State.modRecord, State.notifySlot]

/-! ### The ring and the estimate -/

theorem Ring.push_cells_le {r : Ring} {n value : Nat} (cells : ∀ k : Index16, r.cells[k] ≤ n) (bounded : value ≤ n) (len : Nat) :
    ∀ k : Index16, (r.push len value).cells[k] ≤ n := fun k => by
  simp only [Ring.push, Fin.getElem_fin, Vector.getElem_set]
  split
  · exact bounded
  · exact cells k

theorem Ring.restart_cells_le {r : Ring} {n value : Nat} (cells : ∀ k : Index16, r.cells[k] ≤ n) (bounded : value ≤ n) :
    ∀ k : Index16, (r.restart value).cells[k] ≤ n := fun k => by
  simp only [Ring.restart, Fin.getElem_fin, Vector.getElem_set]
  split
  · exact bounded
  · exact cells k

/-- A settling mean lies in range, that of an empty ring too. -/
theorem settlingMean_le_of_cells {r : Ring} {n : Nat} (h : ∀ k : Index16, r.cells[k] ≤ n) : settlingMean r ≤ n := by
  rcases Nat.eq_zero_or_pos r.occupancy with empty | held
  · simp [settlingMean, empty]
  · exact settlingMean_le h held

/-- S8 writes an estimate in range and the clamp flags, and counts. -/
theorem State.estimate_eq (s : State) (i : Slot) :
    ∃ (e : Nat) (low high : Bool) (x : Stats),
      s.estimate i = ({ s with stats := x } : State).setRecord i
        { s.record i with estimate := some e, lowClamp := low, highClamp := high } ∧
      (FillsInRange s → e ≤ Config.maxFill) := by
  have bounded : FillsInRange s → (if decide ((s.classOf i).kernelLength ≤ (s.record i).ring.occupancy) = true
      then clampEstimate (rawEstimate s.stores (s.classOf i) (s.record i).ring) else settlingMean (s.record i).ring) ≤ Config.maxFill := by
    intro h
    split
    · exact clampEstimate_le _
    · exact settlingMean_le_of_cells (h.cells i)
  unfold State.estimate
  extract_lets r c e kernelRuns low high s'
  split
  · exact ⟨_, r.lowClamp || low, r.highClamp || high, (s'.modCounters fun k => { k with clamps := inc32 k.clamps }).stats, rfl, bounded⟩
  · exact ⟨_, r.lowClamp || low, r.highClamp || high, s.stats, rfl, bounded⟩

section
variable {held : Prop} {s : State} {i : Slot}

/-- Reconciliation as a change: the slot's record rewritten in its bin's name, and its place reconciled with the estimate. -/
theorem State.reconcile_change {r : BinRecord} {e : Nat} (bin : r.identifier = (s.record i).identifier)
    (admin : r.admin = (s.record i).admin) (attempts : r.attempts = (s.record i).attempts) (links : r.links = (s.record i).links)
    (fits : FitsAt s i r) (active : r.admin = .active) (unmarked : r.visitMark = false) (estimate : r.estimate = some e) :
    Change held s ((s.setRecord i r).reconcile i (s.record i).band e) :=
  .work s _ i r bin (by rw [admin]) fits (.inl ⟨admin, .inl attempts⟩)
    ⟨State.reconcile_onlyList .., State.reconcile_links _ i _ e⟩ fun sound => State.reconcile_sound sound links active unmarked estimate

/-- S8 and band confirmation at an ACTIVE, unmarked slot. -/
theorem State.appraise_change (active : (s.record i).admin = .active) (unmarked : (s.record i).visitMark = false) :
    Change held s ((s.estimate i).confirm i (((s.estimate i).record i).estimate.getD 0)) := by
  obtain ⟨e, low, high, x, written, bounded⟩ := s.estimate_eq i
  rw [written, State.record_setRecord_self, State.confirm_eq, State.record_setRecord_self]
  simp only [Option.getD_some]
  let s₀ : State := { s with stats := x }
  let r := (s₀.setRecord i { s.record i with estimate := some e, lowClamp := low, highClamp := high }).confirmed i e
  have rewritten : r =
      { s.record i with
        estimate := some e, lowClamp := low, highClamp := high, candidates := r.candidates, band := r.band, bandSince := r.bandSince } := by
    simp only [r, State.confirmed, State.record_setRecord_self]
  have moves : ∀ u : State, (FillsInRange u → FillsInRange s) → u.record i = s.record i →
      Change held u ((u.setRecord i r).reconcile i (s.record i).band e) := fun u same record => by
    have fits : FitsAt u i r :=
      { cells := fun h => by rw [rewritten, ← record]; exact h.cells i
        estimate := fun h d hd => by rw [rewritten] at hd; cases hd; exact bounded (same h)
        occupancy := fun _ h => by rw [rewritten, ← record]; exact h i
        counters := fun h => by rw [rewritten, ← record]; exact h }
    rw [← record]
    exact State.reconcile_change (by rw [rewritten, record]) (by rw [rewritten, record]) (by rw [rewritten, record])
      (by rw [rewritten, record]) fits (by rw [rewritten]; exact active) (by rw [rewritten]; exact unmarked) (by rw [rewritten])
  rw [State.setRecord_setRecord]
  split
  · exact (Change.stats s x).trans (moves s₀ (fun h => { h with }) rfl)
  · rw [State.setRecord_notify]
    refine ((Change.stats s x).trans (s₀.notify_change _)).trans (moves _ (fun h => ?_) (State.record_notify _ _ i))
    refine ⟨fun p k => ?_, fun j k => ?_, fun j e he => ?_⟩
    · have := h.curves p k
      rwa [State.notify_stores] at this
    · have := h.cells j k
      rwa [State.record_notify] at this
    · exact h.estimates j e (by rwa [State.record_notify])

theorem State.applied_change (active : (s.record i).admin = .active) (unmarked : (s.record i).visitMark = false) :
    Change held s (s.applied i) := by
  unfold State.applied
  exact (State.appraise_change active unmarked).trans State.restore_change

/-! ### A collection (R85) and a stored reading (R87, R88) -/

/-- The slot off the Visit List and its record rewritten so that it asks for no place. -/
theorem State.unlist_change {r : BinRecord} (bin : r.identifier = (s.record i).identifier) (kept : r.admin = .free ↔ (s.record i).admin = .free)
    (fits : FitsAt s i r)
    (requested : r.admin = (s.record i).admin ∧ (r.attempts = (s.record i).attempts ∨ (ClassesSound s → 1 ≤ r.attempts)) ∨
      ∀ e ∈ s.downlink.queue, e.slot ≠ i) (off : r.links = none) (out : ¬r.Listable) :
    Change held s ((s.leaveList i (s.record i).band).setRecord i r) := by
  have left := s.leaveList_onlyList i (s.record i).band
  refine .work s _ i r bin kept fits requested ⟨?_, fun j => ?_⟩ fun sound => ?_
  · obtain ⟨v, rs, e⟩ := left
    exact ⟨v, rs.set i r, by rw [e]; rfl⟩
  · by_cases self : j = i
    · subst self
      exact ⟨r.links, by rw [State.record_setRecord_self, State.record_setRecord_self]⟩
    · obtain ⟨m, e⟩ := s.leaveList_links i (s.record i).band j
      exact ⟨m, by rw [State.record_setRecord_ne _ _ (Ne.symm self), State.record_setRecord_ne _ _ (Ne.symm self), e]⟩
  · have gone := (State.leaveList_left sound (i := i) (r := s.record i) rfl).1
    rw [State.setRecord_record] at gone
    have gone' : Left s i ((s.leaveList i (s.record i).band).setRecord i r) :=
      ⟨gone.visits, fun j ne => (State.record_setRecord_ne _ _ (Ne.symm ne)).trans (gone.behind j ne)⟩
    exact gone'.sound sound (by rw [State.record_setRecord_self, off]) (by rw [State.record_setRecord_self]; exact out)

/-- The record of a bin that has been collected (R85). -/
def BinRecord.collected (r : BinRecord) (fill : Nat) (now : Word32) : BinRecord :=
  { r with
    ring := r.ring.restart fill, lowClamp := false, highClamp := false, candidates := [], band := .low
    bandSince := if r.band = .low then r.bandSince else now
    visitMark := false, links := none, counters := { r.counters with collections := inc16 r.counters.collections } }

/-- A notice reads nothing of the Visit List and moves nothing of it. -/
theorem State.leaveList_notify (s : State) (i : Slot) (n : Notice) (b : Band) : (s.notify n).leaveList i b = (s.leaveList i b).notify n := by
  have record : ∀ (l : List Slot) (t : State), l.foldl (fun s j => s.modRecord j BinRecord.moveForward) (t.notify n) =
      (l.foldl (fun s j => s.modRecord j BinRecord.moveForward) t).notify n := by
    intro l
    induction l with
    | nil => exact fun _ => rfl
    | cons j l ih =>
      intro t
      have step : (t.notify n).modRecord j BinRecord.moveForward = (t.modRecord j BinRecord.moveForward).notify n := by
        rw [State.modRecord, State.modRecord, State.setRecord_notify, State.record_notify]
      rw [List.foldl_cons, List.foldl_cons, step, ih]
  have visits : ∀ (t : State) (v : VisitList), ({ t.notify n with visits := v } : State) = State.notify { t with visits := v } n := by
    intro t v
    unfold State.notify
    by_cases room : t.notices.queue.length < Config.noticeQueueSize
    · rw [if_pos room]; exact (if_pos room).symm
    · rw [if_neg room]; exact (if_neg room).symm
  unfold State.leaveList
  rw [State.record_notify]
  split
  · rfl
  · simp only [State.removeFromBucket, State.notify_visits, visits, record]
    rw [State.modRecord, State.modRecord, State.record_notify, ← State.setRecord_notify, State.notify_visits, visits]

theorem State.record_leaveList_self (s : State) (i : Slot) (b : Band) :
    (s.leaveList i b).record i = { s.record i with links := none } := by
  obtain ⟨m, e⟩ := s.leaveList_links i b i
  have off := s.leaveList_self i b
  rw [e] at off ⊢
  cases off; rfl

theorem State.collect_eq (s : State) (i : Slot) (fill : Nat) :
    s.collect i fill =
      (((s.leaveList i (s.record i).band).setRecord i ((s.record i).collected fill s.mgmt.secs)).notify
        { time := s.mgmt.secs, slot := some i, identifier := some (s.record i).identifier
          body := .collected (s.record i).estimate fill (s.record i).band (if (s.record i).visitMark then .visit else .drop) }).modCounters
        fun k => { k with collections := inc32 k.collections } := by
  have left := s.record_leaveList_self i (s.record i).band
  have time : ((s.leaveList i (s.record i).band).notify
      { time := s.mgmt.secs, slot := some i, identifier := some (s.record i).identifier
        body := .collected (s.record i).estimate fill (s.record i).band (if (s.record i).visitMark then .visit else .drop) }).mgmt =
      s.mgmt := by
    rw [State.notify_mgmt]; exact (s.leaveList_frame i _).mgmt
  simp only [State.collect, State.notifySlot, State.leaveList_notify, State.modRecord, time, State.record_notify, left]
  rw [State.setRecord_notify]
  rfl

theorem State.collect_change {fill : Nat} (bounded : FillsInRange s → fill ≤ Config.maxFill) : Change held s (s.collect i fill) := by
  rw [State.collect_eq]
  have fits : FitsAt s i ((s.record i).collected fill s.mgmt.secs) :=
    { cells := fun h => Ring.restart_cells_le (h.cells i) (bounded h)
      estimate := fun h => h.estimates i
      occupancy := fun _ _ => Nat.le_of_ble_eq_true rfl
      counters := fun h => by
        obtain ⟨h1, h2, h3, h4, h5, h6, h7, h8, h9, -⟩ := h
        exact ⟨h1, h2, h3, h4, h5, h6, h7, h8, h9, inc16_le _⟩ }
  have unlisted := State.unlist_change (held := held) (s := s) (i := i) (r := (s.record i).collected fill s.mgmt.secs) rfl Iff.rfl fits
    (.inl ⟨rfl, .inl rfl⟩) rfl fun h => h.2.2 rfl
  exact (unlisted.trans (State.notify_change _ _)).trans (State.modCounters_change _ _)

theorem State.storeFill_change {fill : Nat} (bounded : FillsInRange s → fill ≤ Config.maxFill) : Change held s (s.storeFill i fill) :=
  s.setRecord_change rfl (.of_eq rfl rfl rfl rfl rfl)
    { cells := fun h => Ring.push_cells_le (h.cells i) (valueToStore_le (bounded h) fun k => Ring.cell_le (h.cells i) k) _
      estimate := fun h => h.estimates i
      occupancy := fun classes _ => (Nat.min_le_right ..).trans (ClassDesc.ringLength_le (classes _).1)
      counters := id }
    (.inl rfl)

theorem State.rejectRise_change (running : s.mgmt.running = true) (active : (s.record i).admin = .active) :
    Change held s (s.rejectRise i) := by
  have counted : Change held s (s.modBinCounters i fun c => { c with rejected := inc16 c.rejected }) :=
    State.modBinCounters_change fun ⟨h1, h2, h3, h4, h5, h6, h7, _, h9, h10⟩ => ⟨h1, h2, h3, h4, h5, h6, h7, inc16_le _, h9, h10⟩
  have here := State.record_modRecord_self s i fun r => { r with counters := { r.counters with rejected := inc16 r.counters.rejected } }
  unfold State.rejectRise
  refine (counted.trans (State.modCounters_change _ _)).trans (State.unusableReading_change ?_ ?_ _)
  · exact running
  · exact (congrArg BinRecord.admin here).trans active

theorem State.workFill_change (running : s.mgmt.running = true) (active : (s.record i).admin = .active) (d : Nat) (l : Liveness) :
    Change held s (s.workFill i d l) := by
  have bounded : FillsInRange s → curveFill s.stores.curves[(s.classOf i).curvePage] d ≤ Config.maxFill := fun h =>
    curveFill_le (h.curves _) d
  unfold State.workFill
  refine .ite (fun _ => ?_) fun unmarked => .ite (fun _ => State.rejectRise_change running active) fun _ => ?_
  · have here : ((s.collect i (curveFill s.stores.curves[(s.classOf i).curvePage] d)).record i) =
        (s.record i).collected (curveFill s.stores.curves[(s.classOf i).curvePage] d) s.mgmt.secs := by
      rw [State.collect_eq, State.record_modCounters, State.record_notify, State.record_setRecord_self]
    exact (State.collect_change bounded).trans (State.applied_change (by rw [here]; exact active) (by rw [here]; rfl))
  · have here := State.record_modRecord_self s i fun r =>
      { r with ring := r.ring.push (s.classOf i).ringLength (valueToStore (s.classOf i) r.ring (curveFill s.stores.curves[(s.classOf i).curvePage] d)) }
    refine (State.storeFill_change bounded).trans (State.applied_change ?_ ?_)
    · exact (congrArg BinRecord.admin here).trans active
    · refine (congrArg BinRecord.visitMark here).trans ?_
      exact Bool.eq_false_iff.2 fun marked => unmarked (.inl marked)

end

end Sys2Proof.Machine

/-! PROOF. A take as a chain of changes: the work of a Sample, the Discovery List, the Copy Merger and the Forward FIFO. -/

namespace Sys2Proof.Machine

open Sys2Proof.Safety

/-! ### The heard update and the latches -/

section
variable {held : Prop} (s : State) (i : Slot) (x : Sample)

theorem State.lidLatch_change : Change held s (s.lidLatch i x) := by
  unfold State.lidLatch
  split
  · exact .refl s
  · exact (State.modRecord_change_of_counters ⟨rfl, rfl, rfl, rfl, rfl, rfl, rfl, rfl⟩ rfl).trans (State.notifySlot_change _ i _)

theorem State.tiltLatch_change : Change held s (s.tiltLatch i x) := by
  unfold State.tiltLatch
  split
  · exact .refl s
  · exact (State.modRecord_change_of_counters ⟨rfl, rfl, rfl, rfl, rfl, rfl, rfl, rfl⟩ rfl).trans (State.notifySlot_change _ i _)

theorem State.heatLatch_change : Change held s (s.heatLatch i x) := by
  unfold State.heatLatch
  split
  · exact .refl s
  · exact (State.modRecord_change_of_counters ⟨rfl, rfl, rfl, rfl, rfl, rfl, rfl, rfl⟩ rfl).trans (State.notifySlot_change _ i _)

theorem State.heard_change : Change held s (s.heard i x) :=
  ((((State.modRecord_change_of_counters ⟨rfl, rfl, rfl, rfl, rfl, rfl, rfl, rfl⟩ rfl).trans (State.lidLatch_change _ i x)).trans
    (State.tiltLatch_change _ i x)).trans (.ite (fun _ => State.notifySlot_change _ i _) fun _ => .refl _)).trans
    (State.heatLatch_change _ i x)

/-! ### An accepted Sample -/

theorem State.countMarked_change (m : Bool) : Change held s (s.countMarked i m) :=
  .ite (fun _ => (State.modBinCounters_change fun ⟨h1, h2, h3, h4, h5, h6, h7, h8, _, h10⟩ =>
    ⟨h1, h2, h3, h4, h5, h6, h7, h8, inc16_le _, h10⟩).trans (State.modCounters_change _ _)) fun _ => .refl s

theorem State.countMarked_frame (m : Bool) : WorkFrame s (s.countMarked i m) :=
  .ite ((s.modRecord_frame i _).trans (State.modCounters_frame _ _)) (.refl s)

variable {s i}

theorem State.workAccepted_change (running : s.mgmt.running = true) (active : (s.record i).admin = .active) (c : Bool) :
    Change held s (s.workAccepted i x c) := by
  rw [State.workAccepted_eq]
  let m := rangeFails (s.classOf i) x.raw (distanceOf x.kind x.raw x.temperature) || decide (x.tilt = some true)
  have counted : Change held s (s.countMarked i m) := s.countMarked_change i m
  have arrived : Change held s (((s.countMarked i m).heard i x).arrival i c) :=
    (counted.trans (State.heard_change _ i x)).trans (State.arrival_change _ i c)
  have frame : WorkFrame s (((s.countMarked i m).heard i x).arrival i c) :=
    ((s.countMarked_frame i m).trans (State.heard_frame _ i x)).trans (State.arrival_frame _ i c)
  have kept : SlotKept i s (((s.countMarked i m).heard i x).arrival i c) :=
    ((s.countMarked_slotKept i m).trans (State.heard_slotKept _ i x)).trans (State.arrival_slotKept _ i c)
  have runs := (congrArg Mgmt.running frame.mgmt).trans running
  have acts := kept.admin.trans active
  exact .ite (fun _ => counted) fun _ => .ite (fun _ => arrived.trans (State.unusableReading_change runs acts _))
    fun _ => arrived.trans (State.workFill_change runs acts _ _)

theorem State.accept_change (n : Nat) : Change held s (s.accept i x n) :=
  State.modRecord_change ⟨rfl, rfl, rfl, rfl, rfl, rfl, rfl, rfl⟩ fun ⟨h1, _, h3, _, h5, h6, h7, h8, h9, h10⟩ =>
    ⟨h1, inc16_le _, h3, satAdd_le .., h5, h6, h7, h8, h9, h10⟩

theorem State.record_accept (s : State) (i : Slot) (x : Sample) (n : Nat) : (s.accept i x n).record i =
    { s.record i with
      lastSequence := some x.sequence
      lastArrival := some x.arrival
      lanesHeard := BitVec.ofNat 4 (2 ^ x.lane.val)
      bestRssi := some x.rssi
      counters := { (s.record i).counters with
        applied := inc16 (s.record i).counters.applied
        missedByGap := satAdd Config.max16 n (s.record i).counters.missedByGap } } := State.record_modRecord_self ..

theorem State.workSequence_change (running : s.mgmt.running = true) (active : (s.record i).admin = .active) :
    Change held s (s.workSequence i x) := by
  have accepted : ∀ (t : State) (n : Nat) (c : Bool), t.mgmt.running = true → (t.record i).admin = .active →
      Change held t ((t.accept i x n).workAccepted i x c) := fun t n c runs acts =>
    (State.accept_change x n).trans (State.workAccepted_change (s := t.accept i x n) x runs
      ((congrArg BinRecord.admin (t.record_accept i x n)).trans acts) c)
  unfold State.workSequence
  split
  case _ =>
    exact (State.modBinCounters_change fun ⟨h1, h2, h3, h4, _, h6, h7, h8, h9, h10⟩ =>
      ⟨h1, h2, h3, h4, inc16_le _, h6, h7, h8, h9, h10⟩).trans (State.modCounters_change _ _)
  case _ =>
    exact (State.modBinCounters_change fun ⟨h1, h2, h3, h4, h5, _, h7, h8, h9, h10⟩ =>
      ⟨h1, h2, h3, h4, h5, inc16_le _, h7, h8, h9, h10⟩).trans (State.modCounters_change _ _)
  case _ => exact accepted s _ _ running active
  case _ => exact accepted s _ _ running active
  case _ n _ =>
    refine ((State.modCounters_change _ _).trans (State.notifySlot_change _ i _)).trans (accepted _ _ _ ?_ ?_)
    · exact (congrArg Mgmt.running (s.sensorRestart_frame i n x).mgmt).trans running
    · exact (congrArg BinRecord.admin (State.record_notifySlot ..)).trans active

/-! ### Identity -/

theorem State.profileMatch_change : Change held s (s.profileMatch i x) :=
  have written {f : BinRecord → BinRecord} := State.modRecord_change_of_counters (held := held) (s := s) (i := i) (f := f)
  .ite (fun _ => written ⟨rfl, rfl, rfl, rfl, rfl, rfl, rfl, rfl⟩ rfl)
    fun _ => .ite (fun _ => (written ⟨rfl, rfl, rfl, rfl, rfl, rfl, rfl, rfl⟩ rfl).trans (State.notifySlot_change _ i _))
      fun _ => written ⟨rfl, rfl, rfl, rfl, rfl, rfl, rfl, rfl⟩ rfl

theorem State.profileMismatch_change : Change held s (s.profileMismatch i x) := by
  unfold State.profileMismatch
  extract_lets r run turns s' s''
  have written : Change held s s'' :=
    (State.modRecord_change ⟨rfl, rfl, rfl, rfl, rfl, rfl, rfl, rfl⟩ fun ⟨h1, h2, h3, h4, h5, h6, _, h8, h9, h10⟩ =>
      ⟨h1, h2, h3, h4, h5, h6, inc16_le _, h8, h9, h10⟩).trans (State.modCounters_change _ _)
  exact .ite (fun _ => written.trans (State.notifySlot_change _ i _)) fun _ => written

theorem State.workSlot_change (running : s.mgmt.running = true) : Change held s (s.workSlot i x) := by
  have received : Change held s (s.modBinCounters i fun c => { c with received := inc16 c.received }) :=
    State.modBinCounters_change fun ⟨_, h2, h3, h4, h5, h6, h7, h8, h9, h10⟩ => ⟨inc16_le _, h2, h3, h4, h5, h6, h7, h8, h9, h10⟩
  refine .ite (fun active => .ite (fun _ => ?_) fun _ => received.trans (State.profileMismatch_change x)) fun _ => received
  refine (received.trans (State.profileMatch_change x)).trans (State.workSequence_change x ?_ ?_)
  · exact (congrArg Mgmt.running (State.profileMatch_frame _ i x).mgmt).trans running
  · exact (State.profileMatch_slotKept _ i x).admin.trans active

end

/-! ### The Discovery List and merge notes -/

theorem DiscoveryEntry.identifier_sighted (e : DiscoveryEntry) (now : Word32) (f : Index16) : (e.sighted now f).identifier = e.identifier := rfl

/-- A repeat sighting keeps every identifier of the list. -/
theorem map_sighted_identifier (l : List DiscoveryEntry) (id now : Word32) (f : Index16) :
    (l.map fun e => if e.identifier = id then e.sighted now f else e).map DiscoveryEntry.identifier = l.map DiscoveryEntry.identifier := by
  rw [List.map_map]
  refine List.map_congr_left fun e _ => ?_
  simp only [Function.comp]
  split
  · exact e.identifier_sighted now f
  · rfl

section
variable {held : Prop} {s : State}

/-- A Discovery List with the same identifiers agrees with the directory as before. -/
theorem State.sameDiscovery_change {l : List DiscoveryEntry} (same : l.map DiscoveryEntry.identifier = s.bins.discovery.map DiscoveryEntry.identifier) :
    Change held s { s with bins := { s.bins with discovery := l } } := by
  refine .discovery s l (fun fits => ?_) fun h => { h with discovery := ⟨same ▸ h.discovery.1, fun e he => ?_⟩ }
  · have := congrArg List.length same
    simp only [List.length_map] at this
    exact this ▸ fits
  · obtain ⟨a, ha, e⟩ := List.mem_map.1 (same ▸ List.mem_map_of_mem (f := DiscoveryEntry.identifier) he)
    exact e ▸ h.discovery.2 a ha

theorem State.discover_change {x : Sample} (unknown : s.lookup x.identifier = none) : Change held s (s.discover x) := by
  unfold State.discover
  refine (s.modCounters_change fun c => { c with unknowns := inc32 c.unknowns }).trans (.ite (fun _ => ?_) fun fresh => .ite (fun space => ?_) fun _ => ?_)
  · exact State.sameDiscovery_change (map_sighted_identifier ..)
  · refine .trans (.discovery _ (_ ++ [_]) (fun _ => by rw [List.length_append]; exact space) fun h => { h with discovery := ⟨?_, fun e he => ?_⟩ }) (State.notify_change _ _)
    · rw [List.map_append, List.nodup_append]
      refine ⟨h.discovery.1, List.nodup_singleton _, fun a ha b hb => ?_⟩
      obtain ⟨e, he, rfl⟩ := List.mem_map.1 ha
      rw [List.mem_singleton.1 hb]
      exact fun same => fresh (List.any_eq_true.2 ⟨e, he, beq_iff_eq.2 same⟩)
    · rcases List.mem_append.1 he with old | new
      · exact h.discovery.2 e old
      · rw [List.mem_singleton.1 new]; exact unknown
  · exact State.modCounters_change _ _

theorem State.mergeNote_change (x : Sample) : Change held s (s.mergeNote x) := by
  unfold State.mergeNote
  split
  · exact .refl s
  · refine State.modRecord_change ?_ ?_
    · unfold BinRecord.noted
      extract_lets r
      split <;> exact ⟨rfl, rfl, rfl, rfl, rfl, rfl, rfl, rfl⟩
    · rintro ⟨h1, h2, -, h4, h5, h6, h7, h8, h9, h10⟩
      unfold BinRecord.noted
      extract_lets r
      split <;> exact ⟨h1, h2, inc16_le _, h4, h5, h6, h7, h8, h9, h10⟩

/-! ### The Copy Merger -/

theorem State.workSample_change {x : Sample} (running : s.mgmt.running = true) : Change held s (s.workSample x) := by
  cases known : s.lookup x.identifier with
  | none => rw [State.workSample_none known]; exact State.discover_change known
  | some i => rw [State.workSample_some known]; exact State.workSlot_change x running

/-- Eviction changes the set and a counter. -/
theorem State.evictIfFull_eq (s : State) : ∃ x : Stats, s.evictIfFull =
    { s with copies := if Config.copySetSize ≤ s.copies.length then s.copies.tail else s.copies, stats := x } := by
  unfold State.evictIfFull
  split
  · exact ⟨_, rfl⟩
  · exact ⟨_, rfl⟩

theorem State.mergeSample_change {x : Sample} (running : s.mgmt.running = true) : Change held s (s.mergeSample x) := by
  by_cases known : ∃ e ∈ s.copies, e.identifier = x.identifier ∧ e.sequence = x.sequence
  · rw [State.mergeSample_later known]
    exact (s.modCounters_change _).trans (State.mergeNote_change x)
  · have first : ∀ e ∈ s.copies, ¬(e.identifier = x.identifier ∧ e.sequence = x.sequence) := fun e he same => known ⟨e, he, same⟩
    rw [State.mergeSample_first first]
    obtain ⟨y, evicted⟩ := s.evictIfFull_eq
    have key : s.evictIfFull.copyEntry x = s.copyEntry x := by rw [evicted]; rfl
    rw [key, evicted]
    let old := if Config.copySetSize ≤ s.copies.length then s.copies.tail else s.copies
    have sub : old.Sublist s.copies := by
      simp only [old]
      split
      · exact List.tail_sublist _
      · exact List.Sublist.refl _
    have entered : Change held s { s with copies := placeCopy (s.copyEntry x) old } := by
      refine .copies s _ (fun fits => ?_) fun distinct => ?_
      · have length := (placeCopy_perm (s.copyEntry x) old).length_eq
        rw [List.length_cons] at length
        have room : old.length < Config.copySetSize := by
          simp only [old]
          split
          next full => rw [List.length_tail]; have : 0 < Config.copySetSize := by decide
                       omega
          next space => omega
        change (placeCopy (s.copyEntry x) old).length ≤ _
        omega
      · refine (((placeCopy_perm (s.copyEntry x) old).map _).nodup_iff).2 ?_
        rw [List.map_cons, List.nodup_cons]
        refine ⟨fun here => ?_, distinct.sublist (sub.map _)⟩
        obtain ⟨e, he, same⟩ := List.mem_map.1 here
        exact first e (sub.subset he) (Prod.mk.inj same)
    exact (entered.trans (.stats _ y)).trans (State.workSample_change running)

/-! ### The take -/

theorem State.forwardJoin_change {r : ForwardRecord} (length : held → FrameLength r.bytes) : Change held s (s.forwardJoin r) := by
  rcases s.forwardJoin_cases r with ⟨space, e⟩ | ⟨-, e⟩ <;> rw [e]
  · refine .egress s _ id (fun _ => by simpa using space) (fun ok r' hr => ?_) id
    rcases List.mem_append.1 hr with old | new
    · exact .inl old
    · rw [List.mem_singleton.1 new]; exact .inr (length ok)
  · exact s.modCounters_change _

theorem taken_change (s : State) (l : Lane) : Change held s (taken s l) := by
  have tails : ∀ (m : Lane), ((s.lanes.set l { s.lanes[l] with fifo := (s.lanes[l]).fifo.tail })[m]).fifo.Sublist (s.lanes[m]).fifo := fun m => by
    simp only [Fin.getElem_fin, Vector.getElem_set]
    split
    next same => obtain rfl := Fin.ext same; exact List.tail_sublist _
    next => exact List.Sublist.refl _
  exact .trans (.lanes s _ (fun m fits => (tails m).length_le.trans fits) fun m f hf => .inl ((tails m).subset hf)) (.classifier _ _ id)

theorem State.classify_change {l : Lane} {f : LaneFrame} (length : held → FrameLength f.bytes) :
    Change held s (s.classify l f) := by
  have forwarded : ∀ (t : State) (m : Mark), Change held t (t.forwardFrame l f m) := fun t m => State.forwardJoin_change length
  have report : ∀ (t : State) (h : Index16) (y : Layout) (b : Bool), t.mgmt.running = true → Change held t (t.binReport l f h y b) := by
    intro t h y b running
    unfold State.binReport
    refine .ite (fun _ => ?_) fun _ => ?_
    · refine .trans (.ite (p := b = true) (fun _ => forwarded t .none) fun _ => .refl t) (State.mergeSample_change ?_)
      split
      · exact (congrArg Mgmt.running (State.forwardJoin_mgmt t _)).trans running
      · exact running
    · exact (t.modCounters_change _).trans (.ite (fun _ => forwarded _ _) fun _ => .refl _)
  unfold State.classify
  refine .ite (fun running => ?_) fun _ => forwarded s .none
  split
  · unfold State.matchedFrame
    extract_lets filter s'
    refine .trans (t := s') (s.modCounters_change _) ?_
    split
    · exact forwarded _ _
    · exact .refl _
    · exact report s' _ _ _ running
    · exact report s' _ _ _ running
  · unfold State.unmatchedFrame
    extract_lets s'
    refine .trans (t := s') (s.modCounters_change _) ?_
    split
    · exact forwarded _ _
    · exact .refl _

theorem State.laneToServe_none_or_takes (s : State) : s.laneToServe = none ∨ ∃ l f, Takes s l f := by
  cases served : s.laneToServe with
  | none => exact .inl rfl
  | some l =>
    have waiting := List.find?_some served
    cases head : (s.lanes[l]).fifo with
    | nil => rw [head] at waiting; cases waiting
    | cons f rest => exact .inr ⟨l, f, served, by rw [head]; rfl⟩

theorem execTake_change {t : State} (frames : held → FramesFit s) (h : execTake s = .next t) : Change held s t := by
  rcases s.laneToServe_none_or_takes with none | ⟨l, f, takes⟩
  · rw [execTake_of_none none] at h
    cases h; exact .refl s
  · rw [execTake_of_takes takes] at h
    cases h
    exact (taken_change s l).trans (State.classify_change fun ok => (frames ok).lanes l f (List.mem_of_mem_head? takes.2))

end

end Sys2Proof.Machine

/-! PROOF. The commands of the lanes, the downlink, the egress and time as chains of changes. -/

namespace Sys2Proof.Machine

open Sys2Proof.Safety

section
variable {held : Prop} {s : State}

/-! ### Lanes -/

theorem State.modLane_change {l : Lane} {f : LaneState → LaneState}
    (fits : (s.lanes[l]).fifo.length ≤ Config.laneFifoDepth → (f s.lanes[l]).fifo.length ≤ Config.laneFifoDepth)
    (frames : ∀ g ∈ (f s.lanes[l]).fifo, g ∈ (s.lanes[l]).fifo ∨ FrameLength g.bytes) : Change held s (s.modLane l f) := by
  have lane (m : Lane) : (s.lanes.set l (f s.lanes[l]))[m] = if l = m then f s.lanes[l] else s.lanes[m] := by
    simp [Fin.getElem_fin, Vector.getElem_set, Fin.ext_iff]
  refine .lanes s _ (fun m => ?_) fun m => ?_
  · rw [lane]
    split
    next same => subst same; exact fits
    next => exact id
  · rw [lane]
    split
    next same => subst same; exact frames
    next => exact fun _ => .inl

/-- A lane changed, its frames kept. -/
theorem State.modLane_sameFifo_change (s : State) (l : Lane) {f : LaneState → LaneState} (same : ∀ x, (f x).fifo = x.fifo) :
    Change held s (s.modLane l f) :=
  State.modLane_change (by rw [same]; exact id) (by rw [same]; exact fun _ => .inl)

theorem State.arrive_change (l : Lane) (r : Int) (bytes : List Byte) : Change held s (s.arrive l r bytes) := by
  refine .ite (fun _ => s.modLaneCounters_change l _) fun _ => .ite (fun _ => s.modLaneCounters_change l _) fun long =>
    .ite (fun _ => s.modLaneCounters_change l _) fun short => ?_
  have length : FrameLength bytes := ⟨Nat.le_of_not_lt long, Nat.le_of_not_lt short⟩
  unfold State.checkFrame
  extract_lets s₁ s₂
  refine .trans (t := s₂) ((s.modLaneCounters_change l _).trans (State.modLane_sameFifo_change s₁ l fun _ => rfl)) (.ite (fun _ => ?_) fun _ => ?_)
  · refine .ite (fun space => State.modLane_change (fun _ => by simpa using space) fun g hg => ?_) fun _ => State.modLaneCounters_change _ l _
    rcases List.mem_append.1 hg with old | new
    · exact .inl old
    · rw [List.mem_singleton.1 new]; exact .inr length
  · unfold State.fcsFailure
    extract_lets s' s''
    refine .trans (t := s'') ((State.modLaneCounters_change _ l _).trans (State.modLane_sameFifo_change s' l fun _ => rfl)) ?_
    split
    · exact .refl _
    · exact State.forwardJoin_change fun _ => length

theorem State.judgeLane_change (l : Lane) : Change held s (s.judgeLane l) := by
  unfold State.judgeLane
  extract_lets x c y h s₁ s₂ s₃
  have lane : Change held s s₁ := State.modLane_change id fun _ => .inl
  have judged : Change held s s₃ := (lane.trans (s₁.modLaneCounters_change l _)).trans (.stats s₂ _)
  exact .ite (fun _ => judged) fun _ => judged.trans (State.notify_change _ _)

theorem State.passLane_change (l : Lane) : Change held s (s.passLane l) :=
  (s.modLane_sameFifo_change l (f := fun x => { x with announced := false }) fun _ => rfl).trans (.stats _ (s.passLane l).stats)

/-! ### The downlink -/

theorem State.removeEntry_change (i : Slot) : Change held s { s with downlink := s.downlink.removeEntry i } :=
  .queue s _ (List.filter_sublist.map _)

theorem mem_removeEntry {d : Downlink} {i : Slot} {e : ReEntry} (h : e ∈ (d.removeEntry i).queue) : e.slot ≠ i := by
  simpa using (List.mem_filter.1 h).2

theorem State.makeDue_change (i : Slot) : Change held s { s with downlink := s.downlink.modEntry i fun e => { e with state := .due } } := by
  refine .queue s _ ?_
  rw [List.map_map, List.map_congr_left (g := fun e => (e.slot, e.identifier))]
  intro e _
  simp only [Function.comp]
  split <;> rfl

theorem State.expireEntry_change (i : Slot) : Change held s
    ((({ s with downlink := s.downlink.removeEntry i } : State).modCounters fun c => { c with expired := inc32 c.expired }).setPending i true) :=
  ((State.removeEntry_change i).trans (State.modCounters_change _ _)).trans (State.setPending_change _ i true)

theorem execReMeasureHandover_change {t : State} (h : execReMeasureHandover s = .next t) : Change held s t := by
  cases h
  split
  · exact .refl s
  · rename_i e _
    extract_lets attempt send d s₁ s₂
    have removed : Change held s s₁ := (State.removeEntry_change e.slot).trans (.transmit _ s.downlink.frames (some send) id fun _ => .inl)
    have spent : Change held s₁ s₂ := s₁.setRecord_change rfl (.of_eq rfl rfl rfl rfl rfl) (.of_ring rfl rfl id)
      (.inr (.inr fun x hx => mem_removeEntry hx))
    exact (removed.trans spent).trans (s₂.modCounters_change _)

theorem execPassThroughHandover_change {t : State} (h : execPassThroughHandover s = .next t) : Change held s t := by
  cases h
  split
  · exact .refl s
  · exact .transmit s _ _ (fun fits => (List.tail_sublist _).length_le.trans fits) fun f hf => .inl (List.mem_of_mem_tail hf)

theorem State.endSend_change : Change held s s.endSend := .transmit s s.downlink.frames none id fun _ => .inl

theorem State.sendFailed_change (x : TxSend) : Change held s (s.sendFailed x) := by
  unfold State.sendFailed
  extract_lets s'
  refine .trans (t := s') State.endSend_change ?_
  split
  · exact State.modCounters_change _ _
  · refine .trans (State.modCounters_change s' fun c => { c with failed := inc32 c.failed }) (.ite (fun _ => ?_) fun _ => .refl _)
    exact State.setPending_change _ _ true

/-! ### The ingress -/

theorem State.offerRequest_change (p : List Byte) : Change held s (s.offerRequest p) := by
  rcases s.offerRequest_cases p with ⟨space, q, e⟩ | e <;> rw [e]
  · exact .control s _ s.sweep (fun _ => by simpa using space) fun h => { h with }
  · exact s.modCounters_change _

theorem State.offerDownlink_change (f : List Byte) : Change held s (s.offerDownlink f) := by
  rcases s.offerDownlink_cases f with ⟨⟨long, short, space⟩, e⟩ | e <;> rw [e]
  · refine .transmit s _ s.downlink.tx (fun _ => by simpa using space) fun g hg => ?_
    rcases List.mem_append.1 hg with old | new
    · exact .inl old
    · rw [List.mem_singleton.1 new]; exact .inr ⟨long, short⟩
  · exact s.modCounters_change _

/-! ### The egress -/

theorem Egress.passedOver_le (e : Egress) : e.passedOver ≤ Config.maxStarvation := by
  unfold Egress.passedOver
  split
  · exact Nat.zero_le _
  · exact satAdd_le ..

theorem execResponseGrant_change {t : State} (h : execResponseGrant s = .next t) : Change held s t := by
  cases h
  refine .ite (fun _ => ?_) fun _ => .refl s
  split
  · exact .refl s
  · rename_i r rest waiting
    refine .egress s _ (fun fits => ?_) id (fun _ _ => .inl) fun _ => s.egress.passedOver_le
    rw [waiting, List.length_cons] at fits
    exact Nat.le_of_succ_le fits

theorem execDigestGrant_change {t : State} (h : execDigestGrant s = .next t) : Change held s t := by
  cases h
  refine .ite (fun _ => ?_) fun _ => .refl s
  refine .trans (.trans (.notices s s.notices.digested fun fits => ?_)
    (.egress _ { s.egress with link := some s.digest, starvation := s.egress.passedOver } id id (fun _ _ => .inl) fun _ =>
      s.egress.passedOver_le)) (State.modCounters_change _ _)
  exact ((List.drop_sublist _ _).length_le).trans fits

theorem execForwardGrant_change {t : State} (h : execForwardGrant s = .next t) : Change held s t := by
  cases h
  refine .ite (fun _ => ?_) fun _ => .refl s
  split
  · exact .refl s
  · rename_i r rest waiting
    refine .egress s _ id (fun fits => ?_) (fun _ x hx => .inl (by rw [waiting]; exact List.mem_cons_of_mem _ hx)) fun _ => Nat.zero_le _
    rw [waiting, List.length_cons] at fits
    exact Nat.le_of_succ_le fits

/-! ### Time -/

theorem State.announce_change : Change held s s.endInterval := by
  refine .trans (.stats s s.endInterval.stats) (.lanes _ s.endInterval.lanes (fun m => ?_) fun m => ?_)
  · rw [s.endInterval_lane]; exact id
  · rw [s.endInterval_lane]; exact fun _ => .inl

theorem State.advanceSecond_change : Change held s s.advanceSecond := by
  unfold State.advanceSecond
  extract_lets ends s'
  have moved : Change held s s' := by
    refine .trans (.notices s s.notices.age fun fits => ?_) (.control _ s.mgmt.advance (s.sweep.count s.mgmt.params.passPeriod) id fun h => ?_)
    · simpa [NoticeUnit.age] using fits
    · refine ⟨(Sweep.count_isSome ..).trans h.timer, fun stopped => ?_, Nat.zero_le _⟩
      have timer : s.sweep.timer = none := by
        have := h.timer.trans stopped
        simpa using this
      rw [Sweep.count_stopped _ timer]
      exact h.standby stopped
  exact .ite (fun _ => moved.trans State.announce_change) fun _ => moved.trans (.stats _ _)

theorem execSweepVisit_change {t : State} (h : execSweepVisit s = .next t) : Change held s t := by
  cases h
  split
  · exact .refl s
  · rename_i i position
    have visited : WorkFrame s (if (s.record i).admin = .active then s.visit i else s) := .ite (s.visit_frame i) (.refl s)
    refine .trans (.ite (fun _ => s.visit_change i) fun _ => .refl s) (.control _ _ _ id fun h => { h with standby := fun stopped => ?_ })
    have := (h.standby stopped).1
    rw [visited.sweep, position] at this
    cases this

/-- An advance of the Millisecond Count by an idle part: a full second would have been taken. -/
theorem State.tick_change (phase : s.mgmt.phase < Config.msPerSecond) : Change held s s.tick :=
  .control s _ s.sweep id fun h => { h with phase := phase }

end

end Sys2Proof.Machine

/-! PROOF. The law on identifiers over the directory: what a lookup finds, and what placing and taking out a bin leaves. -/

namespace Sys2Proof.Machine

open Sys2Proof.Safety

/-! ### Lookups in a sound directory (R49, R50) -/

theorem wayIndex_of_row {id : Word32} {k : Fin 16384} (row : k.val / 4 = dirRow id) : ∃ w, k = wayIndex id w :=
  ⟨⟨k.val % 4, Nat.mod_lt _ (by decide)⟩, Fin.ext (by simp only [wayIndex]; omega)⟩

theorem wayIndex_row (id : Word32) (w : Fin 4) : (wayIndex id w).val / 4 = dirRow id := by simp only [wayIndex]; omega

/-- Every valid way stands in its row, and no identifier stands in two: the part of the law that lookups rest on. -/
structure DirectorySound (d : Vector DirWay 16384) : Prop where
  rows : ∀ k : Fin 16384, (d[k]).valid = true → k.val / 4 = dirRow (d[k]).identifier
  oneWay : ∀ k m : Fin 16384, (d[k]).valid = true → (d[m]).valid = true → (d[k]).identifier = (d[m]).identifier → k = m

theorem directorySound_of_identifiers {s : State} (h : IdentifiersSound s) : DirectorySound s.bins.directory :=
  ⟨fun k valid => (h.wayNames k valid).1, h.oneWay⟩

theorem State.lookup_none_iff {s : State} (sound : DirectorySound s.bins.directory) {id : Word32} :
    s.lookup id = none ↔ ∀ k : Fin 16384, (s.bins.directory[k]).valid = true → (s.bins.directory[k]).identifier ≠ id := by
  rw [State.lookup_none, State.findWay_none]
  refine ⟨fun h k valid here => ?_, fun h w => h _⟩
  obtain ⟨w, rfl⟩ := wayIndex_of_row (here ▸ sound.rows k valid)
  exact h w valid here

theorem State.findWay_some_iff {s : State} (sound : DirectorySound s.bins.directory) {id : Word32} {k : Fin 16384} :
    s.findWay id = some k ↔ (s.bins.directory[k]).valid = true ∧ (s.bins.directory[k]).identifier = id := by
  refine ⟨fun h => (State.findWay_some h).2, fun ⟨valid, here⟩ => ?_⟩
  cases found : s.findWay id with
  | none => exact absurd here ((State.lookup_none_iff sound).1 (State.lookup_none.2 found) k valid)
  | some m =>
    obtain ⟨-, valid', here'⟩ := State.findWay_some found
    rw [sound.oneWay m k valid' valid (here'.trans here.symm)]

theorem State.lookup_some_iff {s : State} (sound : DirectorySound s.bins.directory) {id : Word32} {i : Slot} :
    s.lookup id = some i ↔
      ∃ k : Fin 16384, (s.bins.directory[k]).valid = true ∧ (s.bins.directory[k]).identifier = id ∧ (s.bins.directory[k]).slot = i := by
  constructor
  · intro h
    obtain ⟨k, found, slot⟩ := State.lookup_some h
    obtain ⟨valid, here⟩ := (State.findWay_some_iff sound).1 found
    exact ⟨k, valid, here, slot⟩
  · rintro ⟨k, valid, here, slot⟩
    rw [State.lookup, (State.findWay_some_iff sound).2 ⟨valid, here⟩, Option.map_some, slot]

/-- The bin that a key names is provisioned. -/
theorem State.resolve_provisioned {s : State} (sound : IdentifiersSound s) {key : BinKey} {i : Slot} (h : s.resolve key = some i) :
    (s.record i).admin ≠ .free := by
  rcases State.resolve_some h with ⟨id, -, found⟩ | ⟨-, provisioned⟩
  · obtain ⟨k, valid, -, rfl⟩ := (State.lookup_some_iff (directorySound_of_identifiers sound)).1 found
    exact (sound.wayNames k valid).2.1
  · exact provisioned

/-! ### A slot rewritten with the directory -/

/-- Slot `i` given another record, with the directory that follows it. -/
def State.rebinned (s : State) (i : Slot) (r : BinRecord) (d : Vector DirWay 16384) : State :=
  { s with bins := { directory := d, records := s.bins.records.set i r, discovery := s.bins.discovery } }

theorem State.rebinned_setRecord (s : State) (i : Slot) (q r : BinRecord) (d : Vector DirWay 16384) :
    (s.setRecord i q).rebinned i r d = s.rebinned i r d := by
  simp [State.rebinned, State.setRecord]

theorem State.record_rebinned_self (s : State) (i : Slot) (r : BinRecord) (d : Vector DirWay 16384) : (s.rebinned i r d).record i = r :=
  (s.record_setRecord_self i r :)

theorem State.record_rebinned_ne (s : State) {i j : Slot} (r : BinRecord) (d : Vector DirWay 16384) (ne : i ≠ j) :
    (s.rebinned i r d).record j = s.record j := s.record_setRecord_ne r ne

theorem getElem_set_way (d : Vector DirWay 16384) (k m : Fin 16384) (w : DirWay) : (d.set k w)[m] = if k = m then w else d[m] := by
  simp [Fin.getElem_fin, Vector.getElem_set, Fin.ext_iff]

/-! ### PROVISION (R52, R53) -/

/-- A way of its row written with an identifier that no valid way holds keeps the directory sound. -/
theorem DirectorySound.set_way {d : Vector DirWay 16384} (directory : DirectorySound d) {id : Word32}
    (unmapped : ∀ m : Fin 16384, (d[m]).valid = true → (d[m]).identifier ≠ id) (w : Fin 4) (i : Slot) :
    DirectorySound (d.set (wayIndex id w) { valid := true, identifier := id, slot := i }) := by
  constructor
  · intro m
    rw [getElem_set_way]
    split
    next same => subst same; exact fun _ => wayIndex_row id w
    next => exact directory.rows m
  · intro m n
    rw [getElem_set_way, getElem_set_way]
    split
    next atm =>
      split
      next atn => exact fun _ _ _ => atm.symm.trans atn
      next => exact fun _ valid same => absurd same.symm (unmapped n valid)
    next =>
      split
      next => exact fun valid _ same => absurd same (unmapped m valid)
      next => exact directory.oneWay m n

theorem State.placeBin_identifiersSound {s : State} (sound : IdentifiersSound s) {i : Slot} {k : Fin 16384} {id : Word32} {c p : Index16}
    (unknown : s.lookup id = none) (free : (s.record i).admin = .free) (way : s.freeWay id = some k) :
    IdentifiersSound (s.placeBin i k id c p) := by
  obtain ⟨⟨w, rfl⟩, invalid⟩ := State.freeWay_some way
  have directory := directorySound_of_identifiers sound
  have unmapped := (State.lookup_none_iff directory).1 unknown
  let t := s.placeBin i (wayIndex id w) id c p
  have here : t.record i = provisioned (s.classDesc c) id c p s.mgmt.secs := State.record_setRecord_self ..
  have others : ∀ j ≠ i, t.record j = s.record j := fun j ne => State.record_setRecord_ne _ _ ne.symm
  have ways : ∀ m : Fin 16384, t.bins.directory[m] = if wayIndex id w = m then { valid := true, identifier := id, slot := i } else s.bins.directory[m] :=
    fun m => getElem_set_way ..
  have fresh : ∀ j, (s.record j).admin ≠ .free → (s.record j).identifier ≠ id := fun j provisioned same => by
    have := sound.found j provisioned
    rw [same, unknown] at this
    cases this
  have directory' : DirectorySound t.bins.directory := directory.set_way unmapped w i
  refine ⟨fun a b => ?_, fun m => ?_, directory'.oneWay, fun j provisioned => ?_, ?_⟩
  · change (t.record a).admin ≠ _ → (t.record b).admin ≠ _ → (t.record a).identifier = (t.record b).identifier → a = b
    by_cases ha : a = i <;> by_cases hb : b = i
    · exact fun _ _ _ => ha.trans hb.symm
    · subst ha; rw [here, others b hb]
      exact fun _ provisioned same => absurd same.symm (fresh b provisioned)
    · subst hb; rw [here, others a ha]
      exact fun provisioned _ same => absurd same (fresh a provisioned)
    · rw [others a ha, others b hb]; exact sound.oneSlot a b
  · change (t.bins.directory[m]).valid = true → _
    intro valid
    refine ⟨directory'.rows m valid, ?_⟩
    change (t.record (t.bins.directory[m]).slot).admin ≠ _ ∧ (t.record (t.bins.directory[m]).slot).identifier = (t.bins.directory[m]).identifier
    rw [ways] at valid ⊢
    split
    next => rw [here]; exact ⟨by simp [provisioned], rfl⟩
    next elsewhere =>
      rw [if_neg elsewhere] at valid
      obtain ⟨-, provisioned, names⟩ := sound.wayNames m valid
      rw [others _ (fun same => provisioned (by rw [same]; exact free))]
      exact ⟨provisioned, names⟩
  · change t.lookup (t.record j).identifier = some j
    change (t.record j).admin ≠ _ at provisioned
    rw [State.lookup_some_iff directory']
    by_cases hj : j = i
    · subst hj
      exact ⟨wayIndex id w, by rw [ways, if_pos rfl, here]; exact ⟨rfl, rfl, rfl⟩⟩
    · rw [others j hj] at provisioned ⊢
      obtain ⟨m, valid, names, slot⟩ := (State.lookup_some_iff directory).1 (sound.found j provisioned)
      have elsewhere : wayIndex id w ≠ m := by
        rintro rfl
        exact absurd (valid.symm.trans invalid) (by decide)
      exact ⟨m, by rw [ways, if_neg elsewhere]; exact ⟨valid, names, slot⟩⟩
  · change (t.bins.discovery.map _).Nodup ∧ ∀ e ∈ t.bins.discovery, t.lookup e.identifier = none
    have list : t.bins.discovery = s.bins.discovery.filter fun e => e.identifier != id := rfl
    rw [list]
    refine ⟨sound.discovery.1.sublist (List.filter_sublist.map _), fun e he => ?_⟩
    obtain ⟨old, ne⟩ := List.mem_filter.1 he
    rw [State.lookup_none_iff directory']
    intro m
    rw [ways]
    split
    · exact fun _ same => (bne_iff_ne.1 ne) same.symm
    · exact (State.lookup_none_iff directory).1 (sound.discovery.2 e old) m

/-! ### RETIRE (R54) -/

theorem State.unmap_of_none {s : State} {id : Word32} (h : s.findWay id = none) : s.unmap id = s := by
  unfold State.unmap
  rw [h]

theorem State.unmap_of_some {s : State} {id : Word32} {k : Fin 16384} (h : s.findWay id = some k) :
    s.unmap id = s.setWay k { s.bins.directory[k] with valid := false } := by
  unfold State.unmap
  rw [h]

theorem State.unmap_eq (s : State) (id : Word32) :
    s.unmap id = { s with bins := { s.bins with directory := (s.unmap id).bins.directory } } := by
  unfold State.unmap
  split <;> rfl

theorem State.unmap_congr {s t : State} (h : t.bins.directory = s.bins.directory) (id : Word32) :
    (t.unmap id).bins.directory = (s.unmap id).bins.directory := by
  have same : t.findWay id = s.findWay id := by simp only [State.findWay, h]
  cases found : s.findWay id with
  | none => rw [State.unmap_of_none found, State.unmap_of_none (same.trans found), h]
  | some k =>
    rw [State.unmap_of_some found, State.unmap_of_some (same.trans found)]
    simp only [State.setWay, h]

/-- The ways once a bin's way has been made not valid: the others as before. -/
theorem State.unmap_ways {s : State} (sound : IdentifiersSound s) {i : Slot} (provisioned : (s.record i).admin ≠ .free) (m : Fin 16384) :
    let w := (s.unmap (s.record i).identifier).bins.directory[m]
    w.valid = true ∧ w = s.bins.directory[m] ∧ w.identifier ≠ (s.record i).identifier ∨
      w.valid = false ∧ ((s.bins.directory[m]).valid = true → (s.bins.directory[m]).identifier = (s.record i).identifier) := by
  have directory := directorySound_of_identifiers sound
  obtain ⟨k, found, -⟩ := State.lookup_some (sound.found i provisioned)
  obtain ⟨valid, names⟩ := (State.findWay_some_iff directory).1 found
  rw [State.unmap_of_some found]
  simp only [State.setWay, getElem_set_way]
  split
  next same => subst same; exact .inr ⟨rfl, fun _ => names⟩
  next elsewhere =>
    cases valid' : (s.bins.directory[m]).valid with
    | false => exact .inr ⟨rfl, fun h => by cases h⟩
    | true => exact .inl ⟨rfl, rfl, fun same => elsewhere (directory.oneWay k m valid valid' (names.trans same.symm))⟩

theorem State.unmap_directorySound {s : State} (sound : IdentifiersSound s) {i : Slot} (provisioned : (s.record i).admin ≠ .free) :
    DirectorySound (s.unmap (s.record i).identifier).bins.directory := by
  have directory := directorySound_of_identifiers sound
  have kept : ∀ m : Fin 16384, ((s.unmap (s.record i).identifier).bins.directory[m]).valid = true →
      (s.unmap (s.record i).identifier).bins.directory[m] = s.bins.directory[m] := fun m valid => by
    rcases State.unmap_ways sound provisioned m with ⟨-, e, -⟩ | ⟨invalid, -⟩
    · exact e
    · exact absurd (valid.symm.trans invalid) (by decide)
  refine ⟨fun m valid => ?_, fun m n validm validn => ?_⟩
  · have e := kept m valid
    rw [e] at valid ⊢; exact directory.rows m valid
  · have em := kept m validm
    have en := kept n validn
    rw [em] at validm ⊢
    rw [en] at validn ⊢
    exact directory.oneWay m n validm validn

/-- Lookups once a bin's way has been made not valid: its identifier is unknown, and every other is found as before. -/
theorem State.lookup_unmap {s : State} (sound : IdentifiersSound s) {i : Slot} (provisioned : (s.record i).admin ≠ .free) (id : Word32) :
    (s.unmap (s.record i).identifier).lookup id = if id = (s.record i).identifier then none else s.lookup id := by
  have directory := directorySound_of_identifiers sound
  have directory' := State.unmap_directorySound sound provisioned
  split
  next same =>
    subst same
    rw [State.lookup_none_iff directory']
    intro m valid
    rcases State.unmap_ways sound provisioned m with ⟨-, -, ne⟩ | ⟨invalid, -⟩
    · exact ne
    · exact absurd (valid.symm.trans invalid) (by decide)
  next other =>
    refine Option.ext fun j => ?_
    rw [State.lookup_some_iff directory', State.lookup_some_iff directory]
    constructor
    · rintro ⟨m, valid, names, slot⟩
      rcases State.unmap_ways sound provisioned m with ⟨-, e, -⟩ | ⟨invalid, -⟩
      · exact ⟨m, by rw [← e]; exact ⟨valid, names, slot⟩⟩
      · exact absurd (valid.symm.trans invalid) (by decide)
    · rintro ⟨m, valid, names, slot⟩
      rcases State.unmap_ways sound provisioned m with ⟨-, e, -⟩ | ⟨-, only⟩
      · exact ⟨m, by rw [e]; exact ⟨valid, names, slot⟩⟩
      · exact absurd (names.symm.trans (only valid)) other

theorem State.retired_identifiersSound {s : State} (sound : IdentifiersSound s) {i : Slot} (provisioned : (s.record i).admin ≠ .free) :
    IdentifiersSound (s.rebinned i BinRecord.free (s.unmap (s.record i).identifier).bins.directory) := by
  let t := s.rebinned i BinRecord.free (s.unmap (s.record i).identifier).bins.directory
  have here : t.record i = BinRecord.free := s.record_rebinned_self ..
  have elsewhere : ∀ j, (t.record j).admin ≠ .free → j ≠ i := by
    rintro j bin rfl
    rw [here] at bin
    exact bin rfl
  have others : ∀ j ≠ i, t.record j = s.record j := fun j ne => s.record_rebinned_ne _ _ ne.symm
  have lookups : ∀ id, t.lookup id = if id = (s.record i).identifier then none else s.lookup id := fun id =>
    (State.lookup_congr (s := s.unmap (s.record i).identifier) rfl id).trans (State.lookup_unmap sound provisioned id)
  have directory' : DirectorySound t.bins.directory := State.unmap_directorySound sound provisioned
  refine ⟨fun a b ha hb => ?_, fun m valid => ?_, directory'.oneWay, fun j bin => ?_, sound.discovery.1, fun e he => ?_⟩
  · have na := elsewhere a ha
    have nb := elsewhere b hb
    change (t.record a).admin ≠ _ at ha
    change (t.record b).admin ≠ _ at hb
    change (t.record a).identifier = (t.record b).identifier → _
    rw [others a na] at ha ⊢
    rw [others b nb] at hb ⊢
    exact sound.oneSlot a b ha hb
  · refine ⟨directory'.rows m valid, ?_⟩
    change (t.record (t.bins.directory[m]).slot).admin ≠ _ ∧ (t.record (t.bins.directory[m]).slot).identifier = (t.bins.directory[m]).identifier
    rcases State.unmap_ways sound provisioned m with ⟨valid', e, other⟩ | ⟨invalid, -⟩
    · change t.bins.directory[m] = _ at e
      change (t.bins.directory[m]).identifier ≠ _ at other
      change (t.bins.directory[m]).valid = true at valid'
      rw [e] at valid' other ⊢
      obtain ⟨-, bin, names⟩ := sound.wayNames m valid'
      rw [others _ (fun same => other (names.symm.trans (by rw [same])))]
      exact ⟨bin, names⟩
    · exact absurd (valid.symm.trans invalid) (by decide)
  · have ne := elsewhere j bin
    change (t.record j).admin ≠ _ at bin
    change t.lookup (t.record j).identifier = some j
    rw [others j ne] at bin ⊢
    rw [lookups, if_neg fun same => ne (sound.oneSlot j i bin provisioned same)]
    exact sound.found j bin
  · change t.lookup e.identifier = none
    rw [lookups]
    split
    · rfl
    · exact sound.discovery.2 e he

end Sys2Proof.Machine

/-! PROOF. The requests as chains of changes. -/

namespace Sys2Proof.Machine

open Sys2Proof.Safety

/-! ### A slot withdrawn from the Visit List and the re-measures, and rewritten -/

/-- Slot `i` off the Visit List, and its entry out of the Downlink Request Queue: how RETIRE and a suspension begin. -/
def State.withdrawn (s : State) (i : Slot) : State :=
  { s.leaveList i (s.record i).band with downlink := (s.leaveList i (s.record i).band).downlink.removeEntry i }

theorem State.record_withdrawn_self (s : State) (i : Slot) : (s.withdrawn i).record i = { s.record i with links := none } :=
  s.record_leaveList_self i _

theorem State.withdrawn_directory (s : State) (i : Slot) : (s.withdrawn i).bins.directory = s.bins.directory :=
  (s.leaveList_frame i _).directory

theorem State.suspend_eq (s : State) (i : Slot) :
    s.suspend i = (s.withdrawn i).rebinned i { s.record i with links := none, admin := .suspended } s.bins.directory := by
  have record := s.record_withdrawn_self i
  have directory := s.withdrawn_directory i
  change (s.withdrawn i).setRecord i { (s.withdrawn i).record i with admin := .suspended } = _
  rw [record, ← directory]; rfl

theorem State.retireSlot_eq (s : State) (i : Slot) :
    s.retireSlot i = (s.withdrawn i).rebinned i BinRecord.free (s.unmap (s.record i).identifier).bins.directory := by
  rw [← State.unmap_congr (s.withdrawn_directory i)]
  change ((s.withdrawn i).unmap (s.record i).identifier).setRecord i BinRecord.free = _
  rw [State.unmap_eq]; rfl

section
variable {held : Prop} {s : State} {i : Slot}

/-- A withdrawn slot rewritten with the directory. -/
theorem State.withdrawn_change {r : BinRecord} {d : Vector DirWay 16384}
    (identifiers : IdentifiersSound s → IdentifiersSound (s.rebinned i r d)) (fits : FitsAt s i r) (off : r.links = none)
    (out : ¬r.Listable) : Change held s ((s.withdrawn i).rebinned i r d) := by
  let q : BinRecord := { s.record i with links := none, visitMark := true }
  let t : State := (s.leaveList i (s.record i).band).setRecord i q
  let u : State := { t with downlink := t.downlink.removeEntry i }
  have unlisted : Change held s t := State.unlist_change rfl Iff.rfl (.of_ring rfl rfl id) (.inl ⟨rfl, .inl rfl⟩) rfl
    fun listable => Bool.noConfusion listable.2.1
  have record : u.record i = q := State.record_setRecord_self ..
  have frame := s.leaveList_frame i (s.record i).band
  have links : ∀ j, ∃ m v, u.record j = { s.record j with links := m, visitMark := v } := fun j => by
    by_cases self : j = i
    · subst self; exact ⟨none, true, record⟩
    · obtain ⟨m, e⟩ := s.leaveList_links i (s.record i).band j
      exact ⟨m, (s.record j).visitMark, (State.record_setRecord_ne _ _ (Ne.symm self)).trans e⟩
  have before : FillsInRange u → FillsInRange s := fun h => by
    refine ⟨frame.stores ▸ h.curves, fun j => ?_, fun j => ?_⟩
    all_goals obtain ⟨m, v, e⟩ := links j
    · have := h.cells j
      rwa [e] at this
    · have := h.estimates j
      rwa [e] at this
  have fits' : FitsAt u i r :=
    { cells := fun h => fits.cells (before h)
      estimate := fun h => fits.estimate (before h)
      occupancy := fun classes h => by
        refine fits.occupancy (fun c => ?_) fun j => ?_
        · have stores : u.stores = s.stores := frame.stores
          have := classes c
          rwa [State.classDesc, stores] at this
        · obtain ⟨m, v, e⟩ := links j
          have := h j
          rwa [e] at this
      counters := fun h => fits.counters (by rwa [record] at h) }
  have moved : u.rebinned i r d = (s.withdrawn i).rebinned i r d := State.rebinned_setRecord (s.withdrawn i) i q r d
  rw [← moved]
  refine (unlisted.trans (State.removeEntry_change i)).trans (.rebin u i r d u.bins.discovery (fun h => ?_) (Nat.le_refl _) fits'
    (.inr fun e he => mem_removeEntry he) fun h => ?_)
  · have identifier : ∀ j, (u.record j).identifier = (s.record j).identifier := fun j => by
      obtain ⟨m, v, e⟩ := links j
      rw [e]
    have admin : ∀ j, (u.record j).admin = (s.record j).admin := fun j => by
      obtain ⟨m, v, e⟩ := links j
      rw [e]
    have start : IdentifiersSound s := h.of_same frame.directory.symm frame.discovery.symm (fun j => (identifier j).symm)
      fun j => by rw [admin]
    have same : ∀ j, ((u.rebinned i r d).record j).identifier = ((s.rebinned i r d).record j).identifier ∧
        ((u.rebinned i r d).record j).admin = ((s.rebinned i r d).record j).admin := fun j => by
      by_cases self : i = j
      · subst self; rw [State.record_rebinned_self, State.record_rebinned_self]; exact ⟨rfl, rfl⟩
      · rw [State.record_rebinned_ne _ _ _ self, State.record_rebinned_ne _ _ _ self]; exact ⟨identifier j, admin j⟩
    exact (identifiers start).of_same (t := u.rebinned i r d) rfl frame.discovery (fun j => (same j).1) fun j => by rw [(same j).2]
  · exact h.of_same rfl i (fun j ne => by rw [State.record_setRecord_ne _ _ ne.symm]; exact .refl _)
      (.inr ⟨by rw [record], by rw [State.record_setRecord_self, off], by rw [State.record_setRecord_self]; exact out⟩)

/-! ### What an owner does -/

/-- An owner's work is a chain of changes that puts no response in the Response FIFO. -/
structure Owned (held : Prop) (s t : State) : Prop where
  change : Change held s t
  responses : t.egress.responses.length ≤ s.egress.responses.length

theorem Owned.refl (s : State) : Owned held s s := ⟨.refl s, Nat.le_refl _⟩

theorem Owned.of_egress {t : State} (change : Change held s t) (egress : t.egress = s.egress) : Owned held s t :=
  ⟨change, by rw [egress]⟩

/-- What an owner answers is what it answers in one of two cases. -/
theorem Owned.ite {p : Prop} [Decidable p] {a b : Reply} (yes : p → Owned held s a.state) (no : ¬p → Owned held s b.state) :
    Owned held s (if p then a else b).state := by
  split
  · exact yes ‹_›
  · exact no ‹_›

/-- A request taken whole: the head removed, the owner's work, and the response. -/
theorem serve_change {code : Byte} {fits : List Byte → Bool} {own : State → List Byte → Reply} {t : State}
    (owned : ∀ (s : State) (ps : List Byte), Owned held s (own s ps).state) (h : serve code fits own s = .next t) : Change held s t := by
  rcases serve_cases h with ⟨-, rfl⟩ | ⟨q, request, answer⟩
  · exact .refl t
  obtain ⟨-, -, space⟩ := State.requestOf_some.1 request
  have dropped : Change held s s.dropRequest :=
    .control s _ s.sweep (fun fits => (List.tail_sublist _).length_le.trans fits) fun h => { h with }
  have responded : ∀ (u : State) (a : Status) (b : List Byte), u.egress.responses.length ≤ s.egress.responses.length →
      Change held u (u.respond q a b) := fun u a b fewer =>
    .egress u _ (fun _ => by rw [List.length_append]; exact Nat.lt_of_le_of_lt fewer space) id (fun _ _ => .inl) id
  rcases answer with ⟨-, rfl⟩ | ⟨-, rfl⟩
  · exact dropped.trans (responded _ _ _ (Nat.le_refl _))
  · have work := owned s.dropRequest q.params
    exact (dropped.trans work.change).trans (responded _ _ _ work.responses)

/-! ### The requests that act on the part as a whole -/

theorem ownStart_owned (s : State) (ps : List Byte) : Owned held s (ownStart s ps).state := by
  refine .ite (fun _ => .refl s) fun stopped => .of_egress ?_ rfl
  exact .trans (.started s s.mgmt.secs) (.control _ { s.mgmt with running := true } _ id fun h =>
    ⟨rfl, fun halted => Bool.noConfusion halted, h.phase⟩)

theorem State.setPending_foldl_change (s : State) (q : List ReEntry) : Change held s (q.foldl (fun s e => s.setPending e.slot true) s) := by
  induction q generalizing s with
  | nil => exact .refl s
  | cons e q ih => exact (s.setPending_change e.slot true).trans (ih _)

theorem State.stopQueue_eq (s : State) : s.stopQueue =
    { s with downlink := { s.downlink with queue := [] }, bins := { s.bins with records := s.stopQueue.bins.records } } :=
  State.setPending_foldl _ _

theorem ownStop_owned (s : State) (ps : List Byte) : Owned held s (ownStop s ps).state := by
  refine .ite (fun _ => .of_egress ?_ ?_) fun _ => .refl s
  · refine .trans (.trans (.queue s [] (List.nil_sublist _)) (State.setPending_foldl_change _ s.downlink.queue))
      (.control s.stopQueue { s.stopQueue.mgmt with running := false } s.stopQueue.sweep.halt ?_ fun h => ⟨rfl, fun _ => ⟨rfl, ?_⟩, h.phase⟩)
    · exact id
    · change s.stopQueue.downlink.queue = []
      rw [s.stopQueue_eq]
  · change s.stopQueue.egress = s.egress
    rw [s.stopQueue_eq]

theorem ownRestart_owned (s : State) (ps : List Byte) : Owned held s (ownRestart s ps).state := by
  have lane (m : Lane) : (s.flush.lanes[m]).fifo = [] := by simp [State.flush]
  refine ⟨?_, Nat.zero_le _⟩
  have lanes : Change held s { s with lanes := s.flush.lanes } :=
    .lanes s _ (fun m _ => by rw [lane]; exact Nat.zero_le _) fun m f hf => by
      rw [lane] at hf; cases hf
  have copies := Change.copies (held := held) { s with lanes := s.flush.lanes } [] (fun _ => Nat.zero_le _) fun _ => List.nodup_nil
  refine (((((lanes.trans copies).trans (.queue _ [] (List.nil_sublist _))).trans
    (.transmit _ [] none (fun _ => Nat.zero_le _) fun f hf => by cases hf)).trans
    (.notices _ s.flush.notices fun _ => Nat.zero_le _)).trans
    (.egress _ s.flush.egress (fun _ => Nat.zero_le _) (fun _ => Nat.zero_le _) (fun _ r hr => by cases hr) fun _ => Nat.zero_le _)).trans
    (.control _ s.flush.mgmt s.flush.sweep id fun h => ⟨rfl, fun _ => ⟨rfl, rfl⟩, h.phase⟩)

theorem ownSetTime_owned (s : State) (ps : List Byte) : Owned held s (ownSetTime s ps).state :=
  .ite (fun _ => .refl s) fun _ => .of_egress (.control s _ s.sweep id fun h => { h with }) rfl

theorem ownSetParams_owned (s : State) (ps : List Byte) : Owned held s (ownSetParams s ps).state := by
  unfold ownSetParams
  extract_lets pairs
  exact .ite (fun _ => .refl s) fun _ => .of_egress (.control s _ s.sweep id fun h => { h with }) rfl

/-! ### The requests about bins -/

theorem State.placeBin_change {k : Fin 16384} {id : Word32} {c p : Index16} (unknown : s.lookup id = none)
    (free : (s.record i).admin = .free) (way : s.freeWay id = some k) : Change held s (s.placeBin i k id c p) := by
  refine .rebin s i (provisioned (s.classDesc c) id c p s.mgmt.secs) (s.placeBin i k id c p).bins.directory _
    (fun sound => State.placeBin_identifiersSound sound unknown free way) (List.length_filter_le _ _) ?_ (.inl (by rw [free]; decide)) fun sound => ?_
  · exact { cells := fun _ k => by simp [provisioned, BinRecord.free, Ring.empty]
            estimate := fun _ e he => by cases he
            occupancy := fun _ _ => Nat.zero_le _
            counters := fun _ => by simp [provisioned, BinRecord.free, BinCounters.zero, BinCountersFit] }
  · exact sound.of_same rfl i (fun j ne => by rw [State.record_setRecord_ne _ _ ne.symm]; exact .refl _)
      (.inr ⟨sound.unlisted fun listable => Admin.noConfusion (free.symm.trans listable.1),
        by rw [State.record_setRecord_self]; rfl, by rw [State.record_setRecord_self]; exact fun listable => listable.2.2 rfl⟩)

theorem State.slotToTake_free {given : Option Slot} (h : s.slotToTake given = some i) : (s.record i).admin = .free := by
  cases given with
  | none => exact (State.freeSlot_some h).1
  | some j =>
    simp only [State.slotToTake] at h
    split at h
    · cases h; assumption
    · cases h

theorem ownProvision_owned (s : State) (ps : List Byte) : Owned held s (ownProvision s ps).state := by
  unfold ownProvision
  extract_lets id
  split
  · refine .ite (fun _ => .refl s) fun _ => ?_
    split
    · exact .refl s
    · rename_i unknown
      split
      · exact .refl s
      · rename_i slot
        split
        · exact .refl s
        · rename_i way
          exact .of_egress (State.placeBin_change unknown (State.slotToTake_free slot) way) rfl
  · exact .refl s

theorem State.withdrawn_egress (s : State) (i : Slot) : (s.withdrawn i).egress = s.egress := (s.leaveList_frame i _).egress

theorem ownRetire_owned (s : State) (ps : List Byte) : Owned held s (ownRetire s ps).state := by
  unfold ownRetire
  split
  · exact .refl s
  · split
    · exact .refl s
    · rename_i i bin
      refine .of_egress ?_ ?_
      · rw [s.retireSlot_eq]
        exact State.withdrawn_change (fun sound => State.retired_identifiersSound sound (State.resolve_provisioned sound bin))
          { cells := fun _ k => by simp [BinRecord.free, Ring.empty]
            estimate := fun _ e he => by cases he
            occupancy := fun _ _ => Nat.zero_le _
            counters := fun _ => by simp [BinRecord.free, BinCounters.zero, BinCountersFit] } rfl fun listable => Admin.noConfusion listable.1
      · rw [s.retireSlot_eq]; exact s.withdrawn_egress i

/-- A slot rewritten in its bin's name keeps the law on identifiers. -/
theorem State.rebinned_identifiersSound {r : BinRecord} (sound : IdentifiersSound s) (identifier : r.identifier = (s.record i).identifier)
    (admin : r.admin = .free ↔ (s.record i).admin = .free) : IdentifiersSound (s.rebinned i r s.bins.directory) := by
  refine sound.of_same rfl rfl (fun j => ?_) fun j => ?_
  all_goals
    by_cases self : i = j
    · subst self; rw [State.record_rebinned_self]; assumption
    · rw [State.record_rebinned_ne _ _ _ self]

theorem State.setAdmin_change {target : Admin} (bin : IdentifiersSound s → (s.record i).admin ≠ .free)
    (targets : target = .active ∨ target = .suspended) : Change held s (s.setAdmin i target) := by
  refine .ite (fun _ => .refl s) fun moves => .ite (fun _ => ?_) fun wakes => ?_
  · rw [s.suspend_eq]
    exact State.withdrawn_change (fun sound => State.rebinned_identifiersSound sound rfl
      ⟨fun h => Admin.noConfusion h, fun free => absurd free (bin sound)⟩) (.of_ring rfl rfl id) rfl fun listable => Admin.noConfusion listable.1
  · have active : target = .active := targets.resolve_right wakes
    subst active
    refine .rebin s i ((s.record i).reactivated (s.classOf i) s.mgmt.secs) s.bins.directory s.bins.discovery
      (fun sound => State.rebinned_identifiersSound sound rfl ⟨fun h => Admin.noConfusion h, fun free => absurd free (bin sound)⟩) (Nat.le_refl _)
      ⟨fun h => h.cells i, fun _ e he => (by cases he), fun _ _ => Nat.zero_le _, id⟩ (.inl moves) fun sound => ?_
    have off := sound.unlisted (i := i) fun listable => moves listable.1
    exact sound.of_same rfl i (fun j ne => by rw [State.record_setRecord_ne _ _ ne.symm]; exact .refl _)
      (.inr ⟨off, by rw [State.record_setRecord_self]; exact off, by rw [State.record_setRecord_self]; exact fun listable => listable.2.2 rfl⟩)

theorem targetOf_some {n : Nat} {target : Admin} (h : targetOf n = some target) : target = .active ∨ target = .suspended := by
  unfold targetOf at h
  split at h
  · cases h; exact .inl rfl
  · cases h; exact .inr rfl
  · cases h

theorem State.setAdmin_egress (s : State) (i : Slot) (target : Admin) : (s.setAdmin i target).egress = s.egress := by
  unfold State.setAdmin
  split
  · rfl
  · split
    · rw [s.suspend_eq]; exact s.withdrawn_egress i
    · rfl

theorem ownSetAdmin_owned (s : State) (ps : List Byte) : Owned held s (ownSetAdmin s ps).state := by
  unfold ownSetAdmin
  split
  · rename_i target _ targets
    split
    · exact .refl s
    · rename_i i bin
      exact .of_egress (State.setAdmin_change (fun sound => State.resolve_provisioned sound bin) (targetOf_some targets)) (s.setAdmin_egress i _)
  · exact .refl s

theorem State.confirmVisit_eq (s : State) (i : Slot) :
    s.confirmVisit i = (s.leaveList i (s.record i).band).setRecord i { s.record i with links := none, visitMark := true } := by
  rw [State.confirmVisit, State.modRecord, s.record_leaveList_self]

theorem ownConfirmVisit_owned (s : State) (ps : List Byte) : Owned held s (ownConfirmVisit s ps).state := by
  unfold ownConfirmVisit
  split
  · exact .refl s
  · split
    · exact .refl s
    · rename_i i bin
      refine .ite (fun _ => .of_egress ?_ ?_) fun _ => .refl s
      · rw [s.confirmVisit_eq]
        exact State.unlist_change rfl Iff.rfl (.of_ring rfl rfl id) (.inl ⟨rfl, .inl rfl⟩) rfl fun listable => Bool.noConfusion listable.2.1
      · exact (s.leaveList_frame i _).egress

/-! ### Loads, reads and the rest -/

theorem ownLoadClass_owned (s : State) (ps : List Byte) : Owned held s (ownLoadClass s ps).state := by
  unfold ownLoadClass
  split
  · rename_i n c _ _
    refine .ite (fun valid => .of_egress (.stores s _ (fun sound d => ?_) FillsInRange.curves) rfl) fun _ => .refl s
    change ((s.stores.classes.set n c)[d]).inRange = true ∧ ((s.stores.classes.set n c)[d]).related = true
    simp only [Fin.getElem_fin, Vector.getElem_set]
    split
    · exact valid
    · exact sound d
  · exact .refl s

theorem ownLoadCurve_owned (s : State) (ps : List Byte) : Owned held s (ownLoadCurve s ps).state := by
  unfold ownLoadCurve
  split
  · refine .ite (fun valid => .of_egress (.stores s _ id fun sound p k => ?_) rfl) fun _ => .refl s
    simp only [Fin.getElem_fin, Vector.getElem_set]
    split
    · simp
    · exact sound.curves p k
  · exact .refl s

theorem ownLoadKernel_owned (s : State) (ps : List Byte) : Owned held s (ownLoadKernel s ps).state := by
  unfold ownLoadKernel
  extract_lets l start
  exact .ite (fun _ => .refl s) fun _ => .of_egress (.stores s _ id FillsInRange.curves) rfl

theorem Classifier.chainsFit_iff (c : Classifier) :
    c.chainsFit = true ↔ ∀ f : Index16, c.isHead f.val = true → (c.chain f.val).length ≤ Config.maxChain := by
  simp only [Classifier.chainsFit, List.all_eq_true, List.mem_range, Bool.or_eq_true, Bool.not_eq_true', decide_eq_true_eq]
  refine ⟨fun h f head => (h f.val f.isLt).resolve_left (by simp [head]), fun h f lt => ?_⟩
  cases head : c.isHead f with
  | false => exact .inl rfl
  | true => exact .inr (h ⟨f, lt⟩ head)

theorem ownLoadFilter_owned (s : State) (ps : List Byte) : Owned held s (ownLoadFilter s ps).state := by
  unfold ownLoadFilter
  extract_lets number
  split
  · refine .ite (fun _ => .refl s) fun fits => .of_egress (.classifier s _ fun _ => (Classifier.chainsFit_iff _).1 ?_) rfl
    exact Bool.not_eq_false _ ▸ fun h => fits (.inr h)
  · exact .refl s

theorem ownLoadLayout_owned (s : State) (ps : List Byte) : Owned held s (ownLoadLayout s ps).state := by
  unfold ownLoadLayout
  split
  · exact .ite (fun _ => .of_egress (.classifier s _ id) rfl) fun _ => .refl s
  · exact .refl s

theorem ownReadClass_owned (s : State) (ps : List Byte) : Owned held s (ownReadClass s ps).state := by
  unfold ownReadClass
  split <;> exact .refl s

theorem State.clearClamps_change (s : State) (i : Slot) : Change held s (s.clearClamps i) :=
  State.modRecord_change_of_counters ⟨rfl, rfl, rfl, rfl, rfl, rfl, rfl, rfl⟩ rfl

theorem ownReadBin_owned (s : State) (ps : List Byte) : Owned held s (ownReadBin s ps).state := by
  unfold ownReadBin
  split
  · rename_i clear _ _
    split
    · exact .refl s
    · cases clear with
      | false => exact .refl s
      | true => exact .of_egress (s.clearClamps_change _) rfl
  · exact .refl s

theorem ownReadBinRange_owned (s : State) (ps : List Byte) : Owned held s (ownReadBinRange s ps).state := by
  unfold ownReadBinRange
  extract_lets start count slots
  exact .ite (fun _ => .refl s) fun _ => .refl s

theorem ownReadVisitList_owned (s : State) (ps : List Byte) : Owned held s (ownReadVisitList s ps).state := by
  unfold ownReadVisitList
  extract_lets start maximum
  split
  · exact .refl s
  · exact .ite (fun _ => .refl s) fun _ => .refl s

theorem ownReadDiscovery_owned (s : State) (ps : List Byte) : Owned held s (ownReadDiscovery s ps).state := by
  unfold ownReadDiscovery
  split
  · exact .refl s
  · rename_i clear _
    cases clear with
    | false => exact .refl s
    | true =>
      exact .of_egress (.discovery s [] (fun _ => Nat.zero_le _) fun h => { h with discovery := ⟨List.nodup_nil, fun e he => by cases he⟩ }) rfl

theorem State.clearGroup_change (s : State) (g : CounterGroup) : Change held s (s.clearGroup g) := by
  cases g with
  | bin i =>
    unfold State.clearGroup
    exact State.modBinCounters_change fun _ => by simp [BinCounters.zero, BinCountersFit]
  | lane | filter | copy | binProcessing | fill | downlink | egress => exact .stats s _
  | interval => exact .refl s

theorem State.clearGroup_egress (s : State) (g : CounterGroup) : (s.clearGroup g).egress = s.egress := by
  cases g <;> rfl

theorem ownReadCounters_owned (s : State) (ps : List Byte) : Owned held s (ownReadCounters s ps).state := by
  unfold ownReadCounters
  split
  · rename_i g clear _ _
    refine .ite (fun _ => .refl s) fun _ => ?_
    cases clear with
    | false => exact .refl s
    | true => exact .of_egress (s.clearGroup_change g) (s.clearGroup_egress g)
  · exact .refl s

theorem ownFlushDigest_owned (s : State) (ps : List Byte) : Owned held s (ownFlushDigest s ps).state :=
  .of_egress (.notices s _ id) rfl

end

end Sys2Proof.Machine

/-! PROOF. The laws: each command as a chain of changes, the state after reset, and what every step keeps (O1 to O13). -/

namespace Sys2Proof.Machine

open Sys2Proof.Safety

/-! ### Every command but the reset is a chain of changes -/

theorem ownIdentify_owned {held : Prop} (s : State) (ps : List Byte) : Owned held s (ownIdentify s ps).state := .refl s

theorem execBadCommandRequest_change {held : Prop} {s t : State} (h : execBadCommandRequest s = .next t) : Change held s t := by
  cases h
  split
  · exact .refl s
  · rename_i q rest _
    refine .ite (fun refused => ?_) fun _ => .refl s
    refine .trans (t := s.dropRequest) (.control s _ s.sweep (fun fits => (List.tail_sublist _).length_le.trans fits) fun h => { h with })
      (.egress s.dropRequest _ (fun _ => ?_) id (fun _ _ => .inl) id)
    rw [List.length_append]; exact refused.2

theorem exec_change {held : Prop} {s t : State} {c : Instr} (frames : held → FramesFit s) (running : c ≠ .powerOnReset)
    (h : exec c s = .next t) : Change held s t := by
  cases c with
  | powerOnReset => exact absurd rfl running
  | frameArrival l r b => cases h; exact s.arrive_change l _ b
  | secondStartMarker l => cases h; exact s.arrive_change l _ _
  | laneIntervalEnd l =>
    cases h
    exact .ite (fun _ => .ite (fun _ => State.judgeLane_change l) fun _ => State.passLane_change l) fun _ => .refl s
  | take => exact execTake_change frames h
  | copyExpiry id n =>
    cases h
    exact .copies s _ (fun fits => (List.length_filter_le _ _).trans fits) fun distinct => distinct.sublist (List.filter_sublist.map _)
  | entryDue i =>
    cases h
    split
    · exact .ite (fun _ => State.makeDue_change i) fun _ => .refl s
    · exact .refl s
  | entryExpiry i =>
    cases h
    split
    · exact .ite (fun _ => State.expireEntry_change i) fun _ => .refl s
    · exact .refl s
  | reMeasureHandover => exact execReMeasureHandover_change h
  | passThroughHandover => exact execPassThroughHandover_change h
  | txDone => cases h; exact State.endSend_change
  | txFail =>
    cases h
    split
    · exact .refl s
    · exact State.sendFailed_change _
  | transmitTimeout =>
    cases h
    split
    · exact .refl s
    · exact .ite (fun _ => State.sendFailed_change _) fun _ => .refl s
  | ingressFrame b =>
    cases h
    exact .ite (fun _ => .ite (fun _ => State.offerRequest_change _) fun _ => .ite (fun _ => State.offerDownlink_change _) fun _ =>
      s.modCounters_change _) fun _ => s.modCounters_change _
  | identify => exact serve_change ownIdentify_owned h
  | start => exact serve_change ownStart_owned h
  | stop => exact serve_change ownStop_owned h
  | restart => exact serve_change ownRestart_owned h
  | setTime => exact serve_change ownSetTime_owned h
  | setParams => exact serve_change ownSetParams_owned h
  | provision => exact serve_change ownProvision_owned h
  | retire => exact serve_change ownRetire_owned h
  | setAdmin => exact serve_change ownSetAdmin_owned h
  | confirmVisit => exact serve_change ownConfirmVisit_owned h
  | loadClass => exact serve_change ownLoadClass_owned h
  | readClass => exact serve_change ownReadClass_owned h
  | loadCurve => exact serve_change ownLoadCurve_owned h
  | loadKernel => exact serve_change ownLoadKernel_owned h
  | loadFilter => exact serve_change ownLoadFilter_owned h
  | loadLayout => exact serve_change ownLoadLayout_owned h
  | readBin => exact serve_change ownReadBin_owned h
  | readBinRange => exact serve_change ownReadBinRange_owned h
  | readVisitList => exact serve_change ownReadVisitList_owned h
  | readDiscovery => exact serve_change ownReadDiscovery_owned h
  | readCounters => exact serve_change ownReadCounters_owned h
  | flushDigest => exact serve_change ownFlushDigest_owned h
  | secondAdvance => cases h; exact .ite (fun _ => State.advanceSecond_change) fun _ => .refl s
  | passStart => cases h; exact .ite (fun _ => State.advanceSecond_change) fun _ => .refl s
  | intervalEnd => cases h; exact .ite (fun _ => State.advanceSecond_change) fun _ => .refl s
  | sweepVisit => exact execSweepVisit_change h
  | digestHoldDue => cases h; exact .refl s
  | responseGrant => exact execResponseGrant_change h
  | digestGrant => exact execDigestGrant_change h
  | forwardGrant => exact execForwardGrant_change h
  | egressDone => cases h; exact .egress s _ id id (fun _ _ => .inl) id
  | badCommandRequest => exact execBadCommandRequest_change h

theorem Change.pending {held : Prop} {s t : State} (c : Change held s t) : t.pending = s.pending := by
  induction c with
  | refl s => rfl
  | trans _ _ a b => exact b.trans a
  | work s t i r bin kept fits requested links visits =>
    obtain ⟨v, rs, e⟩ := links.only
    rw [e]; rfl
  | stats | lanes | classifier | copies | stores | notices | egress | control | transmit | queue | request | discovery | started | rebin =>
    rfl

/-! ### The state after reset -/

theorem State.record_reset (i : Slot) : State.reset.record i = BinRecord.free := by simp [State.record, State.reset]

theorem State.lane_reset (l : Lane) : State.reset.lanes[l] = LaneState.initial := by simp [State.reset]

theorem State.bucket_reset (b : Band) (k : Bucket) : State.reset.visits.bucket b k = [] := by
  cases b <;> simp [State.reset, VisitList.bucket]

theorem State.classDesc_reset (c : Index16) : State.reset.classDesc c = ClassDesc.initial := by simp [State.classDesc, State.reset]

theorem State.filter_reset (f : Nat) : State.reset.classifier.filter f = Filter.initial := by
  simp only [Classifier.filter, State.reset, Vector.toList_replicate, List.getD_eq_getElem?_getD, List.getElem?_replicate]
  split
  · rfl
  · rfl

/-- Without cascades a chain is its head. -/
theorem State.chain_reset (f : Index16) : State.reset.classifier.chain f.val = [Filter.initial] := by
  have inside : ¬16 ≤ f.val := by omega
  rw [Classifier.chain, Classifier.chainFrom, if_neg inside, State.filter_reset, if_neg (by decide)]

theorem listed_replicate_nil : listed (Vector.replicate 63 []) = 0 := by
  simp [listed]

end Sys2Proof.Machine

namespace Sys2Proof.Safety

open Sys2Proof.Machine

theorem SizesFit.reset : SizesFit State.reset where
  lanes l := by rw [State.lane_reset]; exact Nat.zero_le _
  copies := Nat.zero_le _
  discovery := Nat.zero_le _
  queue := Nat.zero_le _
  frames := Nat.zero_le _
  notices := Nat.zero_le _
  responses := Nat.zero_le _
  forward := Nat.zero_le _
  requests := Nat.zero_le _
  starvation := Nat.zero_le _

theorem FramesFit.reset : FramesFit State.reset where
  lanes l f hf := by rw [State.lane_reset] at hf; cases hf
  forward r hr := by cases hr
  downlink f hf := by cases hf

theorem classesSound_reset : ClassesSound State.reset := fun c => by
  rw [State.classDesc_reset]; decide

theorem chainsFit_reset : ChainsFit State.reset := fun f _ => by
  rw [State.chain_reset]; decide

theorem FillsInRange.reset : FillsInRange State.reset where
  curves p k := by simp [State.reset, CurvePage.initial]
  cells i k := by simp [State.record_reset, BinRecord.free, Ring.empty]
  estimates i e he := by rw [State.record_reset] at he; cases he

theorem ringsFit_reset : RingsFit State.reset := fun i => by
  rw [State.record_reset]; exact Nat.zero_le _

theorem IdentifiersSound.reset : IdentifiersSound State.reset where
  oneSlot i j hi := absurd (congrArg BinRecord.admin (State.record_reset i)) hi
  wayNames k valid := by simp [State.reset, DirWay.initial] at valid
  oneWay k m valid := by simp [State.reset, DirWay.initial] at valid
  found i hi := absurd (congrArg BinRecord.admin (State.record_reset i)) hi
  discovery := ⟨List.nodup_nil, fun e he => by cases he⟩

theorem VisitListSound.reset : VisitListSound State.reset where
  membership i := by simp [State.record_reset, BinRecord.free]
  place i k hk := by rw [State.record_reset] at hk; cases hk
  once b k p i h := by rw [State.bucket_reset] at h; cases h
  counts := ⟨listed_replicate_nil.symm, listed_replicate_nil.symm⟩

theorem QueueSound.reset : QueueSound State.reset := ⟨List.nodup_nil, fun e he => by cases he⟩

theorem copiesDistinct_reset : CopiesDistinct State.reset := List.nodup_nil

theorem ProcessingSound.reset : ProcessingSound State.reset := ⟨rfl, fun _ => ⟨rfl, rfl⟩, Nat.zero_le _⟩

theorem countersFit_reset : CountersFit State.reset := fun i => by
  rw [State.record_reset]; simp [BinRecord.free, BinCounters.zero, BinCountersFit]

end Sys2Proof.Safety

namespace Sys2Proof.Machine

open Sys2Proof.Safety

/-- Settles O5: a part without bins, frames or copies meets every law. -/
theorem lawsHoldAfterReset : Obligations.LawsHoldAfterReset :=
  ⟨.reset, .reset, classesSound_reset, chainsFit_reset, .reset, ringsFit_reset, .reset, .reset, .reset, copiesDistinct_reset, .reset,
    countersFit_reset⟩

/-- Settles O4: the values of `State.reset`, tables entry by entry. -/
theorem powerOnResetLeavesTheManualsValues : Obligations.PowerOnResetLeavesTheManualsValues := by
  intro s
  refine ⟨{ State.reset with pending := s.pending }, rfl, rfl, fun l => ?_, rfl, fun f => ?_, fun y => ?_, rfl, fun k => ?_,
    State.record_reset, rfl, State.classDesc_reset, fun p => ?_, fun k => ?_, fun k => ?_, rfl, rfl, rfl, rfl, rfl, rfl, rfl, rfl, rfl, rfl, rfl,
    rfl, rfl, fun l => ?_, rfl, rfl, rfl, rfl⟩
  · have lane : ({ State.reset with pending := s.pending } : State).lanes[l] = LaneState.initial := State.lane_reset l
    rw [lane]; exact ⟨rfl, rfl, rfl, rfl, rfl, rfl, rfl⟩
  all_goals simp [State.reset, DirWay.initial]

/-! ### Steps -/

/-- Settles O1. -/
theorem stepRunsTheFrontCommand : Obligations.StepRunsTheFrontCommand := fun _ _ => rfl

theorem exec_next (c : Instr) (s : State) : ∃ t, exec c s = .next t := by
  cases c <;> exact ⟨_, rfl⟩

/-- Settles O2: every command answers a next state, and no change is one of the commands that wait. -/
theorem everyCommandAnswersANextState : Obligations.EveryCommandAnswersANextState := by
  intro c s
  by_cases reset : c = .powerOnReset
  · subst reset; exact ⟨_, rfl, rfl⟩
  · obtain ⟨t, h⟩ := exec_next c s
    exact ⟨t, h, (exec_change (held := False) False.elim reset h).pending⟩

theorem step_of_idle {s : State} (idling : s.pending = []) : step s = idle s := by
  unfold step
  rw [idling]

/-- Settles O3. -/
theorem idleStepTakesOwnEventOrAdvancesTime : Obligations.IdleStepTakesOwnEventOrAdvancesTime := by
  intro s idling
  rw [step_of_idle idling]
  refine ⟨fun c own => ?_, fun own => ?_⟩
  · unfold idle; rw [own]
  · unfold idle; rw [own]; rfl

/-- A part without an own event to take has not yet made the milliseconds of a second. -/
theorem State.phase_of_ownEvent_none {s : State} (h : s.ownEvent = none) : s.mgmt.phase < Config.msPerSecond := by
  have none_of : ∀ e ∈ s.ownEvents, e = none := List.findSome?_eq_none_iff.1 h
  simp only [State.ownEvents, List.forall_mem_cons, Option.map_eq_none_iff] at none_of
  obtain ⟨-, -, -, -, -, -, -, -, -, announced, position, second, -⟩ := none_of
  have settled : s.settled = true := by
    simp only [State.settled, Sweep.mustEnd, position, Option.isSome_none, Bool.false_and, Bool.not_false, Bool.true_and, List.all_eq_true]
    intro x hx
    obtain ⟨l, hl, rfl⟩ := Vector.getElem_of_mem (Vector.mem_toList_iff.1 hx)
    have := List.find?_eq_none.1 announced ⟨l, hl⟩ (List.mem_finRange _)
    simpa using this
  by_contra full
  have ready : s.secondReady = true := by
    simp only [State.secondReady, settled, Bool.true_and, decide_eq_true_eq]; omega
  rw [if_pos ready] at second
  cases second

/-- What a step does: a chain of changes from the state with its front command taken, or the reset. -/
theorem step_change {s t : State} (h : step s = .next t) :
    (∃ p, Change (FramesFit s) { s with pending := p } t) ∨ ∃ p, t = { State.reset with pending := p } := by
  have run : ∀ (c : Instr) (p : List Instr), exec c { s with pending := p } = .next t →
      (∃ p, Change (FramesFit s) { s with pending := p } t) ∨ ∃ p, t = { State.reset with pending := p } := fun c p taken => by
    by_cases reset : c = .powerOnReset
    · subst reset; cases taken; exact .inr ⟨p, rfl⟩
    · exact .inl ⟨p, exec_change (fun frames => { frames with }) reset taken⟩
  cases waiting : s.pending with
  | cons c rest =>
    refine run c rest ?_
    unfold step at h
    rwa [waiting] at h
  | nil =>
    rw [step_of_idle waiting] at h
    unfold idle at h
    cases own : s.ownEvent with
    | some c => rw [own] at h; exact run c s.pending h
    | none =>
      rw [own] at h
      cases h
      exact .inl ⟨s.pending, State.tick_change (State.phase_of_ownEvent_none own)⟩

/-- A law that reads no waiting command is kept by every step where the changes keep it and the reset state meets it. -/
theorem step_keeps {P : State → Prop} (pending : ∀ (s : State) (p : List Instr), P s → P { s with pending := p }) (reset : P State.reset)
    {s t : State} (change : ∀ s', Change (FramesFit s) s' t → P s' → P t) (h : step s = .next t) (holds : P s) : P t := by
  rcases step_change h with ⟨p, c⟩ | ⟨p, rfl⟩
  · exact change _ c (pending s p holds)
  · exact pending _ p reset

/-! ### The laws kept (O6 to O13) -/

/-- Settles O6. -/
theorem everyStepKeepsSizesAndCopies : Obligations.EveryStepKeepsSizesAndCopies := fun _ _ ⟨sizes, frames, copies⟩ h =>
  ⟨step_keeps (fun _ _ h => { h with }) .reset (fun _ c => c.sizes) h sizes,
    step_keeps (fun _ _ h => { h with }) .reset (fun _ c => c.frames frames) h frames,
    step_keeps (fun _ _ h => h) copiesDistinct_reset (fun _ c => c.copiesDistinct) h copies⟩

/-- Settles O7. -/
theorem everyStepKeepsClassesAndChains : Obligations.EveryStepKeepsClassesAndChains := fun _ _ ⟨classes, chains⟩ h =>
  ⟨step_keeps (fun _ _ h => h) classesSound_reset (fun _ c => c.classesSound) h classes,
    step_keeps (fun _ _ h => h) chainsFit_reset (fun _ c => c.chainsFit) h chains⟩

/-- Settles O8. -/
theorem everyStepKeepsFillsInRange : Obligations.EveryStepKeepsFillsInRange := fun s t ⟨classes, fills, rings⟩ h =>
  have kept := step_keeps (P := fun s => ClassesSound s ∧ RingsFit s) (s := s) (t := t) (fun _ _ h => h) ⟨classesSound_reset, ringsFit_reset⟩
    (fun _ c h => ⟨c.classesSound h.1, c.ringsFit h.1 h.2⟩) h ⟨classes, rings⟩
  ⟨kept.1, step_keeps (fun _ _ h => { h with }) .reset (fun _ c => c.fillsInRange) h fills, kept.2⟩

/-- Settles O9. -/
theorem everyStepKeepsIdentifiers : Obligations.EveryStepKeepsIdentifiers := fun _ _ sound h =>
  step_keeps (fun _ _ h => { h with }) .reset (fun _ c => c.identifiersSound) h sound

/-- Settles O10. -/
theorem everyStepKeepsTheVisitList : Obligations.EveryStepKeepsTheVisitList := fun _ _ sound h =>
  step_keeps (fun _ _ h => { h with }) .reset (fun _ c => c.visitListSound) h sound

/-- Settles O11. -/
theorem everyStepKeepsTheRequestQueue : Obligations.EveryStepKeepsTheRequestQueue := fun s t sound h =>
  step_keeps (P := fun s => ClassesSound s ∧ QueueSound s) (s := s) (t := t) (fun _ _ h => ⟨h.1, { h.2 with }⟩)
    ⟨classesSound_reset, .reset⟩ (fun _ c h => ⟨c.classesSound h.1, c.queueSound h.1 h.2⟩) h sound

/-- Settles O12. -/
theorem everyStepKeepsProcessingState : Obligations.EveryStepKeepsProcessingState := fun _ _ sound h =>
  step_keeps (fun _ _ h => { h with }) .reset (fun _ c => c.processingSound) h sound

/-- Settles O13. -/
theorem everyStepKeepsCountersWithinRange : Obligations.EveryStepKeepsCountersWithinRange := fun _ _ fit h =>
  step_keeps (fun _ _ h => h) countersFit_reset (fun _ c => c.countersFit) h fit

end Sys2Proof.Machine

/-! PROOF. Queues that take or count, and the receive lanes (O22 to O25). -/

namespace Sys2Proof.Machine

open Sys2Proof.Safety

/-- Settles O22: both queues test their room and count what finds none. -/
theorem noticesAndForwardedRecordsJoinOrAreDropped : Obligations.NoticesAndForwardedRecordsJoinOrAreDropped :=
  ⟨fun _ _ => ⟨fun room => if_pos room, fun full => if_neg (Nat.not_lt.2 full)⟩,
    fun _ _ => ⟨fun room => if_pos room, fun full => if_neg (Nat.not_lt.2 full)⟩⟩

/-! ### Arrivals (R1 to R3) -/

section
variable {s : State} {l : Lane}

theorem State.arrive_of_disabled (off : s.mgmt.params.laneEnable[l] = false) (rssi : Int) (bytes : List Byte) :
    s.arrive l rssi bytes = s.modLaneCounters l fun c => { c with disabledDrops := inc32 c.disabledDrops } := if_pos off

theorem State.arrive_of_runt (on : s.mgmt.params.laneEnable[l] = true) (rssi : Int) {bytes : List Byte} (short : bytes.length < 4) :
    s.arrive l rssi bytes = s.modLaneCounters l fun c => { c with runts := inc32 c.runts } :=
  (if_neg (by simp only [on]; decide)).trans (if_pos short)

theorem State.arrive_of_oversize (on : s.mgmt.params.laneEnable[l] = true) (rssi : Int) {bytes : List Byte} (long : 64 < bytes.length) :
    s.arrive l rssi bytes = s.modLaneCounters l fun c => { c with oversize := inc32 c.oversize } :=
  (if_neg (by simp only [on]; decide)).trans ((if_neg (by simp only [Config.minFrame]; omega)).trans (if_pos long))

theorem State.arrive_of_permitted (on : s.mgmt.params.laneEnable[l] = true) (rssi : Int) {bytes : List Byte} (least : 4 ≤ bytes.length)
    (most : bytes.length ≤ 64) : s.arrive l rssi bytes = s.checkFrame l { bytes := bytes, rssi := rssi, arrival := s.mgmt.ms } :=
  (if_neg (by simp only [on]; decide)).trans
    ((if_neg (by simp only [Config.minFrame]; omega)).trans (if_neg (by simp only [Config.maxFrame]; omega)))

end

/-- Settles O23: the branches of an arrival before the frame check. -/
theorem arrivalNotCheckedMovesOneCounter : Obligations.ArrivalNotCheckedMovesOneCounter := fun _ _ rssi bytes =>
  ⟨fun off => ⟨congrArg _ (State.arrive_of_disabled off (laneRssi rssi) bytes), congrArg _ (State.arrive_of_disabled off 0 [])⟩,
    fun on => ⟨fun short => congrArg _ (State.arrive_of_runt on (laneRssi rssi) short),
      fun long => congrArg _ (State.arrive_of_oversize on (laneRssi rssi) long), congrArg _ (State.arrive_of_runt on 0 (by decide))⟩⟩

/-! ### The frame check (R4 to R6) -/

/-- A check of two bytes is the packing of the number it reads as. -/
theorem pack16_read16 {check : List Byte} (two : check.length = 2) : pack16 (read16 check 0) = check := by
  obtain ⟨a, b, rfl⟩ := List.length_eq_two.1 two
  have ha := a.isLt
  have hb := b.isLt
  simp only [pack16, read16, read8, List.getD_cons_zero, List.getD_cons_succ, List.cons.injEq, and_true]
  constructor <;> (apply BitVec.eq_of_toNat_eq; rw [BitVec.toNat_ofNat]; omega)

/-- The frame check compares the last two bytes with the CRC of the rest. -/
theorem frameCheck_append {body check : List Byte} (two : check.length = 2) :
    frameCheck (body ++ check) = true ↔ check = pack16 (crc body).toNat := by
  have front : (body ++ check).length - 2 = body.length := by rw [List.length_append]; omega
  have same : (crc body).toNat = read16 check 0 ↔ check = pack16 (crc body).toNat := by
    constructor
    · intro h; rw [h, pack16_read16 two]
    · intro h
      have := read16_pack16 (crc body).isLt []
      rw [List.append_nil, ← h] at this
      exact this.symm
  rw [frameCheck, front, List.take_left, read16_append, beq_iff_eq]
  exact same

theorem State.modLane_modLane (s : State) (l : Lane) (f g : LaneState → LaneState) :
    (s.modLane l f).modLane l g = s.modLane l fun x => g (f x) := by
  simp [State.modLane]

theorem State.modLaneCounters_modLaneCounters (s : State) (l : Lane) (f g : LaneCounters → LaneCounters) :
    (s.modLaneCounters l f).modLaneCounters l g = s.modLaneCounters l fun c => g (f c) := by
  simp [State.modLaneCounters]

/-- Tallies and global counters of a lane move apart. -/
theorem State.modLaneCounters_modLane (s : State) (l : Lane) (f : LaneCounters → LaneCounters) (g : LaneState → LaneState) :
    (s.modLaneCounters l f).modLane l g = (s.modLane l g).modLaneCounters l f := rfl

theorem State.modLane_self (s : State) (l : Lane) (f : LaneState → LaneState) : (s.modLane l f).lanes[l] = f s.lanes[l] := by
  simp [State.modLane]

/-- A frame with a good check is counted, and joins its lane FIFO or is a FIFO drop. -/
theorem State.checkFrame_of_good {s : State} {l : Lane} {f : LaneFrame} (good : frameCheck f.bytes = true) :
    s.checkFrame l f =
      if (s.lanes[l]).fifo.length < 8 then
        (s.modLane l fun x => { x with fifo := x.fifo ++ [f], frameTally := inc32 x.frameTally }).modLaneCounters l fun c =>
          { c with frames := inc32 c.frames }
      else
        (s.modLane l fun x => { x with frameTally := inc32 x.frameTally }).modLaneCounters l fun c =>
          { c with frames := inc32 c.frames, fifoDrops := inc32 c.fifoDrops } := by
  unfold State.checkFrame
  rw [if_pos good]
  unfold State.joinLane
  simp only [State.modLaneCounters_modLane, State.modLane_modLane, State.modLaneCounters_modLaneCounters]
  have fifo := congrArg LaneState.fifo (State.modLane_self s l fun x => { x with frameTally := inc32 x.frameTally })
  exact if_congr (iff_of_eq (congrArg (fun q : List LaneFrame => q.length < 8) fifo)) rfl rfl

/-- A frame with a bad check is counted in both tallies and disposed of by policy. -/
theorem State.checkFrame_of_bad {s : State} {l : Lane} {f : LaneFrame} (bad : frameCheck f.bytes = false) :
    let counted := (s.modLane l fun x => { x with frameTally := inc32 x.frameTally, errorTally := inc32 x.errorTally }).modLaneCounters l
      fun c => { c with frames := inc32 c.frames, fcsErrors := inc32 c.fcsErrors }
    (s.mgmt.params.fcsPolicy = .drop → s.checkFrame l f = counted) ∧
    (s.mgmt.params.fcsPolicy = .forwardMarked → s.checkFrame l f = counted.forwardJoin (recordOf l f .fcsBad)) := by
  intro counted
  unfold State.checkFrame
  rw [bad]
  simp only [Bool.false_eq_true, if_false, State.fcsFailure, State.modLaneCounters_modLane, State.modLane_modLane,
    State.modLaneCounters_modLaneCounters]
  have policy : counted.mgmt = s.mgmt := rfl
  rw [policy]
  constructor
  · intro drop; rw [drop]
  · intro forward; rw [forward]; rfl

/-- The RSSI brought into its range (R1). -/
theorem laneRssi_eq (w : Word16) : laneRssi w = if 0 < w.toInt then 0 else if w.toInt < -150 then -150 else w.toInt := by
  unfold laneRssi
  split
  · omega
  · split <;> omega

theorem execFrameArrival_of_permitted {s : State} {l : Lane} (on : s.mgmt.params.laneEnable[l] = true) (rssi : Word16) {bytes : List Byte}
    (least : 4 ≤ bytes.length) (most : bytes.length ≤ 64) :
    exec (.frameArrival l rssi bytes) s = .next (s.checkFrame l
      { bytes := bytes, rssi := if 0 < rssi.toInt then 0 else if rssi.toInt < -150 then -150 else rssi.toInt, arrival := s.mgmt.ms }) := by
  rw [← laneRssi_eq]
  exact congrArg Host.Outcome.next (State.arrive_of_permitted on (laneRssi rssi) least most)

/-- Settles O24: the frame check and what follows it, on a body with its two check bytes. -/
theorem checkedFrameJoinsBadFrameIsDropped : Obligations.CheckedFrameJoinsBadFrameIsDropped := by
  constructor
  · intro s l rssi body on least most bytes x level
    have length : (body ++ pack16 (crc body).toNat).length = body.length + 2 := by rw [List.length_append, pack16_length]
    have good : frameCheck bytes = true := (frameCheck_append (pack16_length _)).2 rfl
    rw [execFrameArrival_of_permitted on rssi (by rw [length]; omega) (by rw [length]; omega),
      State.checkFrame_of_good (f := { bytes := bytes, rssi := level, arrival := s.mgmt.ms }) good]
    exact ⟨fun room => congrArg Host.Outcome.next (if_pos room), fun full => congrArg Host.Outcome.next (if_neg (Nat.not_lt.2 full))⟩
  · intro s l rssi body check on least most two wrong level counted
    have length : (body ++ check).length = body.length + 2 := by rw [List.length_append, two]
    have bad : frameCheck (body ++ check) = false := Bool.eq_false_iff.2 fun good => wrong ((frameCheck_append two).1 good)
    rw [execFrameArrival_of_permitted on rssi (by rw [length]; omega) (by rw [length]; omega)]
    obtain ⟨drop, forward⟩ := State.checkFrame_of_bad (s := s) (l := l)
      (f := { bytes := body ++ check, rssi := if 0 < rssi.toInt then 0 else if rssi.toInt < -150 then -150 else rssi.toInt, arrival := s.mgmt.ms }) bad
    exact ⟨fun policy => congrArg Host.Outcome.next (drop policy), fun policy => congrArg Host.Outcome.next (forward policy)⟩

/-! ### The interval end at a lane (R11 to R16) -/

theorem execLaneIntervalEnd_of_enabled {s : State} {l : Lane} (announced : (s.lanes[l]).announced = true)
    (on : s.mgmt.params.laneEnable[l] = true) : exec (.laneIntervalEnd l) s = .next (s.judgeLane l) := by
  change Host.Outcome.next (if _ then if _ then _ else _ else _) = _
  rw [if_pos announced, if_pos on]

theorem execLaneIntervalEnd_of_disabled {s : State} {l : Lane} (announced : (s.lanes[l]).announced = true)
    (off : s.mgmt.params.laneEnable[l] = false) : exec (.laneIntervalEnd l) s = .next (s.passLane l) := by
  change Host.Outcome.next (if _ then if _ then _ else _ else _) = _
  rw [if_pos announced, if_neg (by rw [off]; decide)]

/-- Settles O25: what a lane judges and what it passes on, by the definitions of class, runs and health. -/
theorem laneIntervalEndJudgesOrPassesTheLane : Obligations.LaneIntervalEndJudgesOrPassesTheLane := by
  constructor
  · intro s l announced on
    rw [execLaneIntervalEnd_of_enabled announced on]
    rfl
  · intro s l announced off
    rw [execLaneIntervalEnd_of_disabled announced off]
    rfl

end Sys2Proof.Machine

/-! PROOF. The ring's push, copies leaving their set, re-measure entries and the transmit lane, the ingress, and time (O17, O33 to O37, O55, O56). -/

namespace Sys2Proof.Machine

open Sys2Proof.Safety

/-! ### S7: the push (R88) -/

/-- One head further, each stored value is one place older, and none of the fifteen newest stands in the cell written. -/
theorem ring_place_succ : ∀ head : Index16, ∀ k < 15,
    head + 1 - Fin.ofNat 16 (k + 1) = head - Fin.ofNat 16 k ∧ head + 1 ≠ head - Fin.ofNat 16 k := by decide

theorem Ring.cell_push_zero (r : Ring) (len v : Nat) : (r.push len v).cell 0 = v := by
  have newest : r.head + 1 - Fin.ofNat 16 0 = r.head + 1 := by
    generalize r.head = head
    revert head; decide
  simp only [Ring.cell, Ring.push, newest, Fin.getElem_fin, Vector.getElem_set_self]

theorem Ring.cell_push_succ (r : Ring) (len v : Nat) {k : Nat} (inside : k < 15) : (r.push len v).cell (k + 1) = r.cell k := by
  obtain ⟨older, elsewhere⟩ := ring_place_succ r.head k inside
  simp only [Ring.cell, Ring.push, older, Fin.getElem_fin]
  exact Vector.getElem_set_ne _ _ fun same => elsewhere (Fin.ext same)

/-- Settles O17: place by place, the newest written and each other one place older. -/
theorem pushKeepsTheNewestValues : Obligations.PushKeepsTheNewestValues := by
  intro r len v least most held
  have occupancy : (r.push len v).occupancy = min (min r.occupancy len + 1) len := rfl
  refine ⟨?_, rfl, occupancy⟩
  have stored : (r.push len v).stored.length = (r.push len v).occupancy := by simp [Ring.stored]
  have old : r.stored.length = r.occupancy := by simp [Ring.stored]
  refine List.ext_getElem (by rw [stored, List.length_take, List.length_cons, old, occupancy]; omega) fun k inside _ => ?_
  rw [stored, occupancy] at inside
  rw [List.getElem_take]
  cases k with
  | zero => simp [Ring.stored, Ring.cell_push_zero]
  | succ k =>
    simp only [Ring.stored, List.getElem_map, List.getElem_range, List.getElem_cons_succ]
    exact r.cell_push_succ len v (by omega)

/-! ### Copies (R40, R43) -/

/-- A filter that drops one member of a list and keeps the others. -/
theorem filter_split {α : Type} {p : α → Bool} {l₁ l₂ : List α} {a : α} (drops : p a = false) (before : ∀ x ∈ l₁, p x = true)
    (behind : ∀ x ∈ l₂, p x = true) : (l₁ ++ a :: l₂).filter p = l₁ ++ l₂ := by
  rw [List.filter_append, List.filter_cons_of_neg (by rw [drops]; decide), List.filter_eq_self.2 before, List.filter_eq_self.2 behind]

theorem CopyEntry.isOf_iff {e : CopyEntry} {id : Word32} {n : Word16} : e.isOf id n = true ↔ e.identifier = id ∧ e.sequence = n := by
  simp [CopyEntry.isOf]

theorem execCopyExpiry_of_split {s : State} {q₁ q₂ : List CopyEntry} {e : CopyEntry} (split : s.copies = q₁ ++ e :: q₂)
    (distinct : CopiesDistinct s) (due : atOrAfter s.mgmt.ms e.expiry = true) :
    exec (.copyExpiry e.identifier e.sequence) s = .next { s with copies := q₁ ++ q₂ } := by
  rw [CopiesDistinct, split, List.map_append, List.map_cons, List.nodup_append, List.nodup_cons] at distinct
  obtain ⟨-, ⟨behind, -⟩, before⟩ := distinct
  have kept : ∀ x : CopyEntry, (x.identifier, x.sequence) ≠ (e.identifier, e.sequence) →
      (!(x.isOf e.identifier e.sequence && atOrAfter s.mgmt.ms x.expiry)) = true := fun x ne => by
    have : x.isOf e.identifier e.sequence = false := Bool.eq_false_iff.2 fun same =>
      ne (by obtain ⟨a, b⟩ := CopyEntry.isOf_iff.1 same; rw [a, b])
    rw [this]; rfl
  have left := filter_split (p := fun x => !(x.isOf e.identifier e.sequence && atOrAfter s.mgmt.ms x.expiry)) (a := e)
    (by rw [CopyEntry.isOf_iff.2 ⟨rfl, rfl⟩, due]; rfl) (fun x hx => kept x (before _ (List.mem_map_of_mem hx) _ List.mem_cons_self))
    fun x hx => kept x fun same => behind (same ▸ List.mem_map_of_mem (f := fun e => (e.identifier, e.sequence)) hx)
  change Host.Outcome.next { s with copies := s.copies.filter _ } = _
  rw [split, left]

theorem execCopyExpiry_of_early {s : State} {q₁ q₂ : List CopyEntry} {e : CopyEntry} (split : s.copies = q₁ ++ e :: q₂)
    (distinct : CopiesDistinct s) (early : atOrAfter s.mgmt.ms e.expiry = false) :
    exec (.copyExpiry e.identifier e.sequence) s = .next s := by
  have all : s.copies.filter (fun x => !(x.isOf e.identifier e.sequence && atOrAfter s.mgmt.ms x.expiry)) = s.copies := by
    refine List.filter_eq_self.2 fun x hx => ?_
    cases same : x.isOf e.identifier e.sequence with
    | false => rfl
    | true =>
      obtain ⟨id, n⟩ := CopyEntry.isOf_iff.1 same
      have self : x = e := List.inj_on_of_nodup_map distinct hx (split ▸ List.mem_append_right _ List.mem_cons_self) (by rw [id, n])
      rw [self, early]; rfl
  change Host.Outcome.next { s with copies := s.copies.filter _ } = _
  rw [all]

/-- The first entry evicted and counted (R40). -/
def State.evicted (s : State) : State :=
  ({ s with copies := s.copies.tail } : State).modCounters fun c => { c with evictions := inc32 c.evictions }

theorem State.evictIfFull_of_full {s : State} (full : 128 ≤ s.copies.length) : s.evictIfFull = s.evicted := if_pos full

theorem State.evictIfFull_of_room {s : State} (room : s.copies.length < 128) : s.evictIfFull = s := if_neg (Nat.not_le.2 room)

theorem State.forwardJoin_evicted (s : State) (r : ForwardRecord) : s.evicted.forwardJoin r = (s.forwardJoin r).evicted := by
  unfold State.forwardJoin
  by_cases room : s.egress.forward.length < Config.forwardFifoDepth
  · rw [if_pos room]; exact if_pos room
  · rw [if_neg room]; exact if_neg room

/-- Reporting a Sample reads no copy and no eviction. -/
theorem reported_evicted (s : State) (l : Lane) (f : LaneFrame) (h : Index16) : reported s.evicted l f h = (reported s l f h).evicted := by
  unfold reported
  by_cases forwards : (s.classifier.filters[h]).action = .binReportAndForward
  · rw [if_pos forwards]; exact (if_pos forwards).trans ((takenAt s l h).forwardJoin_evicted _)
  · rw [if_neg forwards]; exact if_neg forwards

/-- Settles O33: expiry removes the one entry of its identifier and sequence; a first copy at a full set is a take after the eviction. -/
theorem copyEntriesLeaveByExpiryOrEviction : Obligations.CopyEntriesLeaveByExpiryOrEviction := by
  refine ⟨fun s q₁ q₂ e split distinct => ⟨fun due => execCopyExpiry_of_split split distinct ((atOrAfter_iff ..).2 due), fun early =>
    execCopyExpiry_of_early split distinct (Bool.eq_false_iff.2 fun due => ?_)⟩, fun s l f h x reports fresh full => ?_⟩
  · have := (atOrAfter_iff ..).1 due
    omega
  · have fresh' : ∀ e ∈ s.evicted.copies, ¬(e.identifier = x.identifier ∧ e.sequence = x.sequence) := fun e he =>
      fresh e (List.mem_of_mem_tail he)
    have before : (reported s l f h).evictIfFull = (reported s l f h).evicted :=
      State.evictIfFull_of_full (by rw [reported_copies, full])
    have after : (reported s.evicted l f h).evictIfFull = reported s.evicted l f h :=
      State.evictIfFull_of_room (by rw [reported_copies]; exact (by simp [full] : s.copies.tail.length < 128))
    rw [show exec .take s = _ from execTake_of_reports reports]
    rw [State.mergeSample_first (by rw [reported_copies]; exact fresh), before, ← reported_evicted]
    refine Eq.trans ?_ (execTake_of_reports (s := s.evicted) reports).symm
    rw [State.mergeSample_first (by rw [reported_copies]; exact fresh'), after]

/-! ### Re-measure entries (R135 to R137) -/

/-- A new entry stands behind those that open at or before it. -/
theorem placeEntry_split (e : ReEntry) (q : List ReEntry) : ∃ q₁ q₂, q = q₁ ++ q₂ ∧ placeEntry e q = q₁ ++ e :: q₂ ∧
    (∀ x ∈ q₁, (e.opens - x.opens).toNat < 2147483648) ∧ ∀ x ∈ q₂.head?, ¬(e.opens - x.opens).toNat < 2147483648 := by
  induction q with
  | nil => exact ⟨[], [], rfl, rfl, fun x hx => (by cases hx), fun x hx => (by cases hx)⟩
  | cons x rest ih =>
    unfold placeEntry
    split
    next sooner =>
      refine ⟨[], x :: rest, rfl, rfl, fun y hy => (by cases hy), fun y hy => ?_⟩
      obtain rfl : x = y := Option.some.inj hy
      exact Nat.not_lt.2 ((before_iff ..).1 sooner)
    next later =>
      obtain ⟨q₁, q₂, cut, placed, front, next⟩ := ih
      refine ⟨x :: q₁, q₂, by rw [cut, List.cons_append], by rw [placed, List.cons_append], fun y hy => ?_, next⟩
      rcases List.mem_cons.1 hy with rfl | hy
      · exact Nat.lt_of_not_le fun sooner => later ((before_iff ..).2 sooner)
      · exact front y hy

section
variable {s : State} {q₁ q₂ : List ReEntry} {e : ReEntry}

theorem execEntryDue_of_split (split : s.downlink.queue = q₁ ++ e :: q₂) (sound : QueueSound s) :
    exec (.entryDue e.slot) s = .next (if e.becomesDue s.mgmt.ms then
      { s with downlink := { s.downlink with queue := q₁ ++ { e with state := .due } :: q₂ } } else s) := by
  obtain ⟨entry, -⟩ := Downlink.entry_of_split split sound.onePerSlot
  change Host.Outcome.next (match s.downlink.entry e.slot with | some e' => _ | none => _) = _
  rw [entry]
  change Host.Outcome.next (if e.becomesDue s.mgmt.ms then ({ s with downlink := s.downlink.modEntry e.slot _ } : State) else s) = _
  rw [Downlink.modEntry_of_split _ split sound.onePerSlot]

theorem execEntryExpiry_of_split (split : s.downlink.queue = q₁ ++ e :: q₂) (sound : QueueSound s) :
    exec (.entryExpiry e.slot) s = .next (if e.expires s.mgmt.ms then
      (({ s with downlink := { s.downlink with queue := q₁ ++ q₂ } } : State).setRecord e.slot
        { s.record e.slot with pendingFlag := true }).modCounters fun c => { c with expired := inc32 c.expired } else s) := by
  obtain ⟨entry, removed⟩ := Downlink.entry_of_split split sound.onePerSlot
  change Host.Outcome.next (match s.downlink.entry e.slot with | some e' => _ | none => _) = _
  rw [entry]
  change Host.Outcome.next (if e.expires s.mgmt.ms then
    State.setPending (State.modCounters { s with downlink := s.downlink.removeEntry e.slot } _) e.slot true else s) = _
  rw [removed]
  rfl

end

theorem ReEntry.becomesDue_iff (e : ReEntry) (now : Word32) :
    e.becomesDue now = true ↔ e.state = .waiting ∧ (now - e.opens).toNat < 2147483648 := by
  simp [ReEntry.becomesDue, atOrAfter_iff]

theorem ReEntry.expires_iff (e : ReEntry) (now : Word32) :
    e.expires now = true ↔ e.state = .due ∧ (now - e.closes).toNat < 2147483648 := by
  simp [ReEntry.expires, atOrAfter_iff]

/-- Settles O34. -/
theorem entriesAreOrderedAndFollowTheirTimes : Obligations.EntriesAreOrderedAndFollowTheirTimes := by
  refine ⟨placeEntry_split, fun s q₁ q₂ e split sound => ?_⟩
  rw [execEntryDue_of_split split sound, execEntryExpiry_of_split split sound]
  refine ⟨fun waiting open_ => ?_, fun waiting early => ?_, fun due closed => ?_, fun due early => ?_⟩
  · rw [if_pos ((e.becomesDue_iff _).2 ⟨waiting, open_⟩)]
  · rw [if_neg fun due => absurd ((e.becomesDue_iff _).1 due).2 (Nat.not_lt.2 early)]
  · rw [if_pos ((e.expires_iff _).2 ⟨due, closed⟩)]; rfl
  · rw [if_neg fun closed => absurd ((e.expires_iff _).1 closed).2 (Nat.not_lt.2 early)]

/-! ### The transmit lane (R138 to R143) -/

/-- The candidate with the earliest close, the first of those that share it. -/
theorem earliestClose_of_split {now : Word32} {q₁ q₂ : List ReEntry} {e : ReEntry} (open_ : e.candidate now = true)
    (before : ∀ x ∈ q₁, x.candidate now = true → atOrAfter e.closes x.closes = false)
    (behind : ∀ x ∈ q₂, x.candidate now = true → atOrAfter x.closes e.closes = true) :
    earliestClose now (q₁ ++ e :: q₂) = some e := by
  induction q₁ with
  | nil =>
    change earliestClose now (e :: q₂) = some e
    unfold earliestClose
    cases rest : earliestClose now q₂ with
    | none => simp only [open_, if_true]
    | some b =>
      obtain ⟨mem, candidate⟩ := earliestClose_mem rest
      simp only [open_, behind b mem candidate, and_self, if_true]
  | cons x q₁ ih =>
    rw [List.cons_append]
    unfold earliestClose
    rw [ih fun y hy => before y (List.mem_cons_of_mem _ hy)]
    exact if_neg fun ⟨candidate, sooner⟩ => Bool.eq_false_iff.1 (before x List.mem_cons_self candidate) sooner

theorem State.txChoice_of_idle {s : State} (idle : s.downlink.tx = none) : s.txChoice = earliestClose s.mgmt.ms s.downlink.queue := by
  unfold State.txChoice
  rw [idle]

theorem execReMeasureHandover_of_choice {s : State} {e : ReEntry} (choice : s.txChoice = some e) :
    exec .reMeasureHandover s =
      .next ((({ s with downlink := { s.downlink.removeEntry e.slot with
          tx := some { kind := .reMeasure e.slot e.identifier, sendStart := s.mgmt.ms
                       bytes := reMeasureFrame e.identifier (attemptNumber (s.classOf e.slot).maxAttempts (s.record e.slot).attempts) } } } :
        State).setRecord e.slot { s.record e.slot with attempts := (s.record e.slot).attempts - 1 }).modCounters fun c =>
          { c with handed := inc32 c.handed }) := by
  change Host.Outcome.next (match s.txChoice with | none => s | some e => _) = _
  rw [choice]
  rfl

theorem execPassThroughHandover_of_choice {s : State} {f : List Byte} (choice : s.passThroughChoice = some f) :
    exec .passThroughHandover s = .next { s with downlink := { s.downlink with
      frames := s.downlink.frames.tail, tx := some { kind := .passThrough, sendStart := s.mgmt.ms, bytes := f } } } := by
  change Host.Outcome.next (match s.passThroughChoice with | none => s | some f => _) = _
  rw [choice]

theorem execPassThroughHandover_of_none {s : State} (choice : s.passThroughChoice = none) : exec .passThroughHandover s = .next s := by
  change Host.Outcome.next (match s.passThroughChoice with | none => s | some f => _) = _
  rw [choice]

/-- Settles O35: the arbiter's choice in a queue cut at the chosen entry, and the pass-through frame that waits for none. -/
theorem transmitArbiterPrefersOpenReMeasures : Obligations.TransmitArbiterPrefersOpenReMeasures := by
  constructor
  · intro s q₁ q₂ e split sound idle open_ opened before behind r attempt head send
    have choice : s.txChoice = some e := by
      rw [State.txChoice_of_idle idle, split]
      refine earliestClose_of_split ((e.candidate_iff _).2 opened) (fun x hx candidate => Bool.eq_false_iff.2 fun later => ?_)
        fun x hx candidate => (atOrAfter_iff ..).2 (behind x hx ((x.candidate_iff _).1 candidate))
      have := (atOrAfter_iff ..).1 later
      have := before x hx ((x.candidate_iff _).1 candidate)
      omega
    obtain ⟨-, removed⟩ := Downlink.entry_of_split split sound.onePerSlot
    rw [execReMeasureHandover_of_choice choice, removed]
    rfl
  · intro s f rest idle frames open_
    have candidates : (∀ x ∈ s.downlink.queue, ¬open_ x) ↔ s.txChoice = none := by
      rw [State.txChoice_of_idle idle, earliestClose_none]
      exact forall₂_congr fun x _ => not_congr (x.candidate_iff _).symm
    refine ⟨fun shut => ?_, fun ⟨x, hx, opened⟩ => ?_⟩
    · have choice : s.passThroughChoice = some f := by
        unfold State.passThroughChoice
        rw [idle, candidates.1 shut, if_pos ⟨rfl, rfl⟩, frames]; rfl
      rw [execPassThroughHandover_of_choice choice, frames]; rfl
    · refine execPassThroughHandover_of_none (if_neg fun ⟨_, shut⟩ => ?_)
      exact candidates.2 (Option.isNone_iff_eq_none.1 shut) x hx opened

section
variable {s : State} {send : TxSend}

theorem execTxFail_of_send (sends : s.downlink.tx = some send) : exec .txFail s = .next (s.sendFailed send) := by
  change Host.Outcome.next (match s.downlink.tx with | none => s | some t => _) = _
  rw [sends]

theorem execTransmitTimeout_of_send (sends : s.downlink.tx = some send) :
    exec .transmitTimeout s =
      .next (if atOrAfter s.mgmt.ms (send.sendStart + 4000#32) then s.sendFailed send else s) := by
  change Host.Outcome.next (match s.downlink.tx with | none => s | some t => if (match s.downlink.tx with | none => false | some t => _) then _ else s) = _
  rw [sends]; rfl

end

/-- Settles O36. -/
theorem answersAndTimeoutEndTheSend : Obligations.AnswersAndTimeoutEndTheSend := by
  intro s
  refine ⟨fun idle => ⟨?_, ?_, ?_⟩, fun send sends => ⟨rfl, fun early => ?_, fun late => ?_, fun pass => ?_, fun i id kind => ⟨fun active => ?_, fun other => ?_⟩⟩⟩
  · change Host.Outcome.next { s with downlink := { s.downlink with tx := none } } = _
    rw [← idle]
  · change Host.Outcome.next (match s.downlink.tx with | none => s | some t => _) = _
    rw [idle]
  · change Host.Outcome.next (match s.downlink.tx with | none => s | some t => _) = _
    rw [idle]
  · rw [execTransmitTimeout_of_send sends, if_neg fun late => early ((atOrAfter_iff ..).1 late)]
  · rw [execTransmitTimeout_of_send sends, execTxFail_of_send sends, if_pos ((atOrAfter_iff ..).2 late)]
  · rw [execTxFail_of_send sends, State.sendFailed, pass]; rfl
  · rw [execTxFail_of_send sends, State.sendFailed, kind]
    exact congrArg Host.Outcome.next (if_pos active)
  · rw [execTxFail_of_send sends, State.sendFailed, kind]
    exact congrArg Host.Outcome.next (if_neg other)

end Sys2Proof.Machine

/-! PROOF. The ingress, time, and the egress (O37, O55, O56, O60). -/

namespace Sys2Proof.Machine

open Sys2Proof.Safety

/-! ### The ingress (R164, R165, R188) -/

/-- A number in 2 bytes reads as itself. -/
theorem pack16_bytes {n : Nat} (fits : n < 65536) : 256 * (BitVec.ofNat 8 (n / 256)).toNat + (BitVec.ofNat 8 n).toNat = n := by
  rw [BitVec.toNat_ofNat, BitVec.toNat_ofNat]; omega

/-- A frame passes the envelope checks exactly with the right length field and the right check. -/
theorem envelopeOk_iff {type b₁ b₂ c₁ c₂ : Byte} {payload : List Byte} :
    envelopeOk ([type, b₁, b₂] ++ payload ++ [c₁, c₂]) = true ↔
      payload.length ≤ 1024 ∧ [b₁, b₂] = pack16 payload.length ∧ [c₁, c₂] = pack16 (crc ([type, b₁, b₂] ++ payload)).toNat := by
  rw [envelopeOk_eq, Bool.and_eq_true, Bool.and_eq_true, decide_eq_true_eq, beq_iff_eq, beq_iff_eq, and_assoc]
  refine and_congr_right fun short => and_congr ⟨fun field => ?_, fun field => ?_⟩ ⟨fun check => ?_, fun check => ?_⟩
  · rw [← field]; exact (pack16_read16 (check := [b₁, b₂]) rfl).symm
  · obtain ⟨rfl, rfl⟩ : b₁ = BitVec.ofNat 8 (payload.length / 256) ∧ b₂ = BitVec.ofNat 8 payload.length := by simpa [pack16] using field
    exact pack16_bytes (by omega)
  · rw [check]; exact (pack16_read16 (check := [c₁, c₂]) rfl).symm
  · have fits := (crc ([type, b₁, b₂] ++ payload)).isLt
    obtain ⟨rfl, rfl⟩ : c₁ = BitVec.ofNat 8 ((crc ([type, b₁, b₂] ++ payload)).toNat / 256) ∧
        c₂ = BitVec.ofNat 8 (crc ([type, b₁, b₂] ++ payload)).toNat := by simpa [pack16] using check
    exact (pack16_bytes fits).symm

theorem execIngressFrame_of_bad {s : State} {bytes : List Byte} (bad : envelopeOk bytes = false) :
    exec (.ingressFrame bytes) s = .next s.managementDrop :=
  congrArg Host.Outcome.next (if_neg (by rw [bad]; decide))

/-- A whole envelope is dispatched by its type. -/
theorem execIngressFrame_of_whole (s : State) (type : Byte) {payload : List Byte} (short : payload.length ≤ 1024) :
    exec (.ingressFrame ([type] ++ pack16 payload.length ++ payload ++ pack16 (crc ([type] ++ pack16 payload.length ++ payload)).toNat)) s =
      .next (if type = 0x01 then s.offerRequest payload else if type = 0x02 then s.offerDownlink payload else s.managementDrop) := by
  refine congrArg Host.Outcome.next ((if_pos (envelopeOk_iff.2 ⟨short, rfl, rfl⟩)).trans ?_)
  rw [show payloadOf ([type] ++ pack16 payload.length ++ payload ++ pack16 _) = payload from payloadOf_eq ..]
  rfl

theorem State.offerRequest_of_short {s : State} {payload : List Byte} (short : payload.length < 3) :
    s.offerRequest payload = s.managementDrop := if_pos short

theorem State.offerRequest_whole (s : State) (tag : Word16) (code : Byte) (ps : List Byte) :
    s.offerRequest (pack16 tag.toNat ++ [code] ++ ps) =
      if s.mgmt.requests.length < 4 then
        { s with mgmt := { s.mgmt with requests := s.mgmt.requests ++ [{ tag := tag, code := code, params := ps }] } }
      else s.managementDrop := by
  have long : ¬(pack16 tag.toNat ++ [code] ++ ps).length < 3 := by
    simp only [List.length_append, pack16_length, List.length_cons, List.length_nil]; omega
  have tagged : BitVec.ofNat 16 (read16 (pack16 tag.toNat ++ [code] ++ ps) 0) = tag := by
    rw [List.append_assoc, read16_pack16_toNat]
  unfold State.offerRequest
  rw [if_neg long, tagged]
  rfl

theorem State.offerDownlink_of_room {s : State} {f : List Byte} (h : 4 ≤ f.length ∧ f.length ≤ 64 ∧ s.downlink.frames.length < 8) :
    s.offerDownlink f = { s with downlink := { s.downlink with frames := s.downlink.frames ++ [f] } } := if_pos h

theorem State.offerDownlink_of_refused {s : State} {f : List Byte} (h : f.length < 4 ∨ 64 < f.length ∨ 8 ≤ s.downlink.frames.length) :
    s.offerDownlink f = s.modCounters fun c => { c with downlinkDrops := inc32 c.downlinkDrops } :=
  if_neg fun ⟨least, most, room⟩ => by
    rcases h with h | h | h
    · exact absurd least (Nat.not_le.2 h)
    · exact absurd most (Nat.not_le.2 h)
    · exact absurd room (Nat.not_lt.2 h)

/-- Settles O37: the envelope checks, and what each type of frame comes to. -/
theorem ingressFrameIsDispatchedOrDropped : Obligations.IngressFrameIsDispatchedOrDropped := by
  constructor
  · intro s type payload short head bytes dropped refused
    have whole := execIngressFrame_of_whole s type short
    refine ⟨fun tag code ps request params => ?_, fun request few => ?_, fun frame room => ?_, fun frame none_ => ?_, fun other₁ other₂ => ?_⟩
    · rw [if_pos request, params, State.offerRequest_whole, ← params] at whole
      exact ⟨fun room => whole.trans (congrArg Host.Outcome.next (if_pos room)),
        fun full => whole.trans (congrArg Host.Outcome.next (if_neg (Nat.not_lt.2 full)))⟩
    · rw [if_pos request, State.offerRequest_of_short few] at whole
      exact whole
    · rw [if_neg (by rw [frame]; decide), if_pos frame, State.offerDownlink_of_room room] at whole
      exact whole
    · rw [if_neg (by rw [frame]; decide), if_pos frame, State.offerDownlink_of_refused none_] at whole
      exact whole
    · rw [if_neg other₁, if_neg other₂] at whole
      exact whole
  · intro s bytes dropped
    refine ⟨fun length => execIngressFrame_of_bad ?_, fun type b₁ b₂ c₁ c₂ payload cut wrong => execIngressFrame_of_bad ?_⟩
    · have range : decide (Config.minEnvelope ≤ bytes.length ∧ bytes.length ≤ Config.maxEnvelope) = false :=
        decide_eq_false (by simp only [Config.minEnvelope, Config.maxEnvelope]; omega)
      rw [envelopeOk, range]; rfl
    · rw [cut, Bool.eq_false_iff]
      intro ok
      obtain ⟨-, field, check⟩ := envelopeOk_iff.1 ok
      exact wrong.elim (absurd field) (absurd check)

/-! ### Time (R118, R150, R168, R181, R183) -/

theorem State.reachesInterval_iff {s : State} : s.reachesInterval = true ↔ s.mgmt.params.interval ≤ s.stats.timer + 1 := decide_eq_true_iff

theorem Sweep.reachesPass_iff {w : Sweep} : w.reachesPass = true ↔ ∃ n, w.timer = some n ∧ w.period ≤ n + 1 := by
  unfold Sweep.reachesPass
  cases w.timer <;> simp

theorem Sweep.mustEnd_iff {w : Sweep} :
    w.mustEnd = true ↔ ∃ (i : Slot) (n : Nat), w.position = some i ∧ w.timer = some n ∧ w.period ≤ n + 1 := by
  rw [Sweep.mustEnd, Bool.and_eq_true, Option.isSome_iff_exists, Sweep.reachesPass_iff]
  exact ⟨fun ⟨⟨i, position⟩, n, timer⟩ => ⟨i, n, position, timer⟩, fun ⟨i, n, position, timer⟩ => ⟨⟨i, position⟩, n, timer⟩⟩

theorem State.settled_iff (s : State) : s.settled = true ↔ (∀ l : Lane, (s.lanes[l]).announced = false) ∧
    ¬∃ (i : Slot) (n : Nat), s.sweep.position = some i ∧ s.sweep.timer = some n ∧ s.sweep.period ≤ n + 1 := by
  rw [State.settled, Bool.and_eq_true, and_comm, Bool.not_eq_true', Bool.eq_false_iff, Ne, Sweep.mustEnd_iff]
  refine and_congr_left fun _ => ?_
  simp only [List.all_eq_true, Bool.not_eq_true']
  refine ⟨fun h l => h _ (by simp), fun h x hx => ?_⟩
  obtain ⟨n, hn, rfl⟩ := Vector.getElem_of_mem (Vector.mem_toList_iff.1 hx)
  exact h ⟨n, hn⟩

/-- The state of an advance before its interval is worked: time, hold ages and pass timer. -/
def State.secondTimed (s : State) : State :=
  { s with mgmt := s.mgmt.advance, notices := s.notices.age, sweep := s.sweep.count s.mgmt.params.passPeriod }

theorem State.advanceSecond_of_ends {s : State} (ends : s.mgmt.params.interval ≤ s.stats.timer + 1) :
    s.advanceSecond = s.secondTimed.endInterval := if_pos (State.reachesInterval_iff.2 ends)

theorem State.advanceSecond_of_counts {s : State} (counts : s.stats.timer + 1 < s.mgmt.params.interval) :
    s.advanceSecond = { s.secondTimed with stats := { s.stats with timer := s.stats.timer + 1 } } :=
  if_neg fun ends => Nat.not_le.2 counts (State.reachesInterval_iff.1 ends)

theorem State.advanceSecond_advanced (s : State) : SecondAdvanced s s.advanceSecond where
  time := s.advanceSecond_mgmt
  holdAges := s.advanceSecond_notices
  stopped off := by rw [s.advanceSecond_sweep, Sweep.count_stopped _ off]
  counts n timer below := by rw [s.advanceSecond_sweep, Sweep.count_below _ timer below]
  passStarts n timer reaches := by rw [s.advanceSecond_sweep, Sweep.count_reaches _ timer reaches]
  interval counts := by rw [State.advanceSecond_of_counts counts]; exact ⟨rfl, rfl⟩
  intervalEnds ends := by
    rw [State.advanceSecond_of_ends ends]
    exact ⟨rfl, s.secondTimed.endInterval_lane⟩
  rest := by
    rcases Nat.lt_or_ge (s.stats.timer + 1) s.mgmt.params.interval with counts | ends
    · rw [State.advanceSecond_of_counts counts]; rfl
    · rw [State.advanceSecond_of_ends ends]; rfl

/-- Settles O55. -/
theorem secondAdvanceMovesTimersAndHoldAges : Obligations.SecondAdvanceMovesTimersAndHoldAges := fun s =>
  ⟨s.settled_iff, fun settled => ⟨s.advanceSecond, congrArg Host.Outcome.next (if_pos settled), s.advanceSecond_advanced⟩,
    fun busy => congrArg Host.Outcome.next (if_neg (by rw [busy]; decide))⟩

/-- Settles O56: the two commands are the advance, at the times that bring the end or the start. -/
theorem intervalEndAndPassStartBegin : Obligations.IntervalEndAndPassStartBegin := by
  intro s
  refine ⟨fun settled ends => ?_, fun early => ?_, fun n settled timer reaches => ?_, fun early => ?_⟩
  · have advanced := s.advanceSecond_advanced
    obtain ⟨stats, lanes⟩ := advanced.intervalEnds ends
    refine ⟨s.advanceSecond, congrArg Host.Outcome.next (if_pos ⟨settled, State.reachesInterval_iff.2 ends⟩), advanced, ?_, ?_, ?_, fun l => ?_⟩
    · rw [stats]
    · rw [stats]
    · rw [stats, advanced.time]
    · rw [lanes]
  · refine congrArg Host.Outcome.next (if_neg ?_)
    rintro ⟨settled, reaches⟩
    rcases early with busy | counts
    · rw [busy] at settled; cases settled
    · exact Nat.not_le.2 counts (State.reachesInterval_iff.1 reaches)
  · have sweep := s.advanceSecond_advanced.passStarts n timer reaches
    have position : s.sweep.position = none := by
      cases position : s.sweep.position with
      | none => rfl
      | some i => exact absurd ⟨i, n, position, timer, reaches⟩ (s.settled_iff.1 settled).2
    exact ⟨s.advanceSecond, congrArg Host.Outcome.next (if_pos ⟨settled, Sweep.reachesPass_iff.2 ⟨n, timer, reaches⟩⟩),
      s.advanceSecond_advanced, position, by rw [sweep], by rw [sweep]⟩
  · refine congrArg Host.Outcome.next (if_neg ?_)
    rintro ⟨settled, reaches⟩
    obtain ⟨n, timer, reaches⟩ := Sweep.reachesPass_iff.1 reaches
    rcases early with busy | stopped | ⟨m, timer', below⟩
    · rw [busy] at settled; cases settled
    · rw [stopped] at timer; cases timer
    · cases timer.symm.trans timer'
      exact Nat.not_le.2 below reaches

/-! ### The Egress Arbiter (R151, R158, R159) -/

theorem State.digestReady_iff (s : State) : s.digestReady = true ↔
    20 ≤ s.notices.queue.length ∨ (∃ n ∈ s.notices.queue.head?, s.mgmt.params.hold ≤ n.holdAge) ∨ s.notices.flushPending = true := by
  unfold State.digestReady
  rw [Bool.or_eq_true, Bool.or_eq_true, decide_eq_true_eq, or_assoc]
  refine or_congr Iff.rfl (or_congr ?_ Iff.rfl)
  cases s.notices.queue <;> simp

/-- The guard has run out with a record waiting (R159). -/
def State.forced (s : State) : Prop := s.egress.forward ≠ [] ∧ s.mgmt.params.starvationLimit ≤ s.egress.starvation

section
variable {s : State}

theorem State.egressChoice_of_busy (busy : s.egress.link ≠ none) : s.egressChoice = none :=
  if_pos (Option.isSome_iff_ne_none.2 busy)

theorem State.egressChoice_of_forced (idle : s.egress.link = none) (forced : s.forced) : s.egressChoice = some .forward :=
  (if_neg (by rw [idle]; decide)).trans (if_pos forced)

theorem State.egressChoice_of_free (idle : s.egress.link = none) (free : ¬s.forced) :
    s.egressChoice =
      if s.egress.responses ≠ [] then some .response
      else if s.digestReady then some .digest
      else if s.egress.forward ≠ [] then some .forward
      else none :=
  (if_neg (by rw [idle]; decide)).trans (if_neg free)

theorem State.egressChoice_response_iff :
    s.egressChoice = some .response ↔ s.egress.link = none ∧ ¬s.forced ∧ s.egress.responses ≠ [] := by
  by_cases idle : s.egress.link = none
  swap
  · simp [State.egressChoice_of_busy idle, idle]
  by_cases forced : s.forced
  · simp [State.egressChoice_of_forced idle forced, forced]
  rw [State.egressChoice_of_free idle forced]
  by_cases waiting : s.egress.responses = []
  · simp only [waiting, ne_eq, not_true_eq_false, if_false, and_false, iff_false]
    split
    · decide
    · split <;> decide
  · simp [waiting, idle, forced]

theorem State.egressChoice_digest_iff :
    s.egressChoice = some .digest ↔ s.egress.link = none ∧ ¬s.forced ∧ s.egress.responses = [] ∧ s.digestReady = true := by
  by_cases idle : s.egress.link = none
  swap
  · simp [State.egressChoice_of_busy idle, idle]
  by_cases forced : s.forced
  · simp [State.egressChoice_of_forced idle forced, forced]
  rw [State.egressChoice_of_free idle forced]
  by_cases waiting : s.egress.responses = []
  · by_cases ready : s.digestReady = true
    · simp [waiting, ready, idle, forced]
    · by_cases queued : s.egress.forward = []
      · simp [waiting, ready, queued]
      · simp [waiting, ready, queued]
  · simp [waiting]

theorem State.egressChoice_forward_iff :
    s.egressChoice = some .forward ↔
      s.egress.link = none ∧ s.egress.forward ≠ [] ∧ (s.forced ∨ s.egress.responses = [] ∧ s.digestReady = false) := by
  by_cases idle : s.egress.link = none
  swap
  · simp [State.egressChoice_of_busy idle, idle]
  by_cases forced : s.forced
  · simp [State.egressChoice_of_forced idle forced, forced, forced.1, idle]
  rw [State.egressChoice_of_free idle forced]
  by_cases waiting : s.egress.responses = []
  · by_cases ready : s.digestReady = true
    · simp [waiting, ready, forced]
    · by_cases queued : s.egress.forward = []
      · simp [waiting, ready, queued]
      · simp [waiting, ready, queued, idle]
  · simp [waiting, forced]

theorem execResponseGrant_of_passed (passed : s.egressChoice ≠ some .response) : exec .responseGrant s = .next s :=
  congrArg Host.Outcome.next (if_neg passed)

theorem execDigestGrant_of_passed (passed : s.egressChoice ≠ some .digest) : exec .digestGrant s = .next s :=
  congrArg Host.Outcome.next (if_neg passed)

theorem execForwardGrant_of_passed (passed : s.egressChoice ≠ some .forward) : exec .forwardGrant s = .next s :=
  congrArg Host.Outcome.next (if_neg passed)

theorem execResponseGrant_of_chosen (chosen : s.egressChoice = some .response) {r : Response} {rest : List Response}
    (head : s.egress.responses = r :: rest) : exec .responseGrant s =
      .next { s with egress := { s.egress with responses := rest, link := some r.frame, starvation := s.egress.passedOver } } := by
  refine congrArg Host.Outcome.next ((if_pos chosen).trans ?_)
  rw [head]

theorem execForwardGrant_of_chosen (chosen : s.egressChoice = some .forward) {r : ForwardRecord} {rest : List ForwardRecord}
    (head : s.egress.forward = r :: rest) : exec .forwardGrant s =
      .next { s with egress := { s.egress with forward := rest, link := some r.frame, starvation := 0 } } := by
  refine congrArg Host.Outcome.next ((if_pos chosen).trans ?_)
  rw [head]

end

/-- Settles O60: each grant by what the arbiter's choice comes to. -/
theorem egressGrantsInPriorityWithTheGuard : Obligations.EgressGrantsInPriorityWithTheGuard := by
  refine ⟨fun s => ?_, fun s => ⟨rfl, rfl⟩⟩
  intro forced ready busy
  have unready : ¬ready → s.digestReady = false := fun h => Bool.eq_false_iff.2 fun is => h (s.digestReady_iff.1 is)
  refine ⟨fun passed => execResponseGrant_of_passed fun chosen => ?_, fun passed => execDigestGrant_of_passed fun chosen => ?_,
    fun passed => execForwardGrant_of_passed fun chosen => ?_, fun r rest head idle free => ?_, fun r rest head idle first => ?_⟩
  · obtain ⟨idle, free, waiting⟩ := State.egressChoice_response_iff.1 chosen
    exact passed.elim (absurd idle) fun h => h.elim free waiting
  · obtain ⟨idle, free, empty, ready'⟩ := State.egressChoice_digest_iff.1 chosen
    exact passed.elim (absurd idle) fun h => h.elim free fun h => h.elim (absurd empty) (absurd (s.digestReady_iff.1 ready'))
  · obtain ⟨idle, queued, first⟩ := State.egressChoice_forward_iff.1 chosen
    refine passed.elim (absurd idle) fun h => h.elim queued fun ⟨free, others⟩ => ?_
    obtain ⟨empty, unready'⟩ := first.resolve_left free
    refine others.elim (absurd empty) fun is => ?_
    rw [s.digestReady_iff.2 is] at unready'; cases unready'
  · exact execResponseGrant_of_chosen (State.egressChoice_response_iff.2 ⟨Decidable.not_not.1 idle, free, by rw [head]; exact List.cons_ne_nil _ _⟩) head
  · refine execForwardGrant_of_chosen (State.egressChoice_forward_iff.2 ⟨Decidable.not_not.1 idle, by rw [head]; exact List.cons_ne_nil _ _, ?_⟩) head
    exact first.imp id fun ⟨empty, h⟩ => ⟨empty, unready h⟩

end Sys2Proof.Machine

/-! PROOF. The requests that act on the part as a whole, those on time and counters, and the digest (O38 to O42, O53, O54, O59). -/

namespace Sys2Proof.Machine

open Sys2Proof.Safety

/-! ### Lengths and places (R166, R167) -/

theorem serve_of_wrong_length {s : State} {code : Byte} {q : Request} {fits : List Byte → Bool} {own : State → List Byte → Reply}
    (asks : Requests s code q) (wrong : fits q.params = false) : serve code fits own s = .next (answered s q .badLength []) :=
  serve_of_not_fits (State.requestOf_some.2 asks) wrong

theorem exactly_of_length {n : Nat} {ps : List Byte} (h : ps.length = n) : exactly n ps = true := beq_iff_eq.2 h

theorem exactly_of_length_ne {n : Nat} {ps : List Byte} (h : ps.length ≠ n) : exactly n ps = false := beq_eq_false_iff_ne.2 h

theorem exactly_nil {ps : List Byte} (h : ps = []) : exactly 0 ps = true := exactly_of_length (by rw [h]; rfl)

theorem requestOf_of_full {s : State} (full : 4 ≤ s.egress.responses.length) (code : Byte) : s.requestOf code = none := by
  cases request : s.requestOf code with
  | none => rfl
  | some q => exact absurd (State.requestOf_some.1 request).2.2 (Nat.not_lt.2 full)

theorem execBadCommandRequest_of_head {s : State} {q : Request} (head : s.mgmt.requests.head? = some q) :
    exec .badCommandRequest s =
      .next (if commandCodes.contains q.code = false ∧ s.egress.responses.length < 4 then answered s q .badCommand [] else s) := by
  change Host.Outcome.next (match s.mgmt.requests with | [] => s | q :: _ => _) = _
  cases waiting : s.mgmt.requests with
  | nil => rw [waiting] at head; cases head
  | cons x rest =>
    obtain rfl : x = q := by rw [waiting] at head; exact Option.some.inj head
    rw [answered, waiting]
    refine congrArg Host.Outcome.next (if_congr Iff.rfl ?_ rfl)
    rw [State.dropRequest, waiting]; rfl

theorem execBadCommandRequest_of_full {s : State} (full : 4 ≤ s.egress.responses.length) : exec .badCommandRequest s = .next s := by
  cases head : s.mgmt.requests.head? with
  | none =>
    change Host.Outcome.next (match s.mgmt.requests with | [] => s | q :: _ => _) = _
    rw [List.head?_eq_none_iff.1 head]
  | some q => rw [execBadCommandRequest_of_head head, if_neg fun room => absurd room.2 (Nat.not_lt.2 full)]

/-- A choice between two commands that change nothing changes nothing. -/
theorem exec_ite_of_same {p : Prop} [Decidable p] {a b : Instr} {s : State} (yes : exec a s = .next s) (no : exec b s = .next s) :
    exec (if p then a else b) s = .next s := by
  split
  · exact yes
  · exact no

theorem paramsFit_iff (ps : List Byte) : paramsFit ps = true ↔ ps ≠ [] ∧ ps.length = 1 + 3 * (ps.getD 0 0).toNat := by
  rw [paramsFit, Bool.and_eq_true, beq_iff_eq, decide_eq_true_eq, and_comm, Nat.succ_le_iff, List.length_pos_iff]
  rfl

theorem kernelFits_iff (ps : List Byte) : kernelFits ps = true ↔ 2 ≤ ps.length ∧ ps.length = 2 + 2 * (ps.getD 1 0).toNat := by
  rw [kernelFits, Bool.and_eq_true, beq_iff_eq, decide_eq_true_eq, and_comm]
  rfl

/-- Settles O38: codes, lengths, and the full Response FIFO. -/
theorem requestsAreRefusedOrWait : Obligations.RequestsAreRefusedOrWait := by
  refine ⟨fun s q => ⟨fun head unknown room => ?_, fun row mem => ?_, fun asks wrong => ?_, fun asks wrong => ?_⟩, fun s code full => ?_⟩
  · rw [execBadCommandRequest_of_head head, if_pos ⟨by simpa using unknown, room⟩]
  · simp only [List.mem_cons, List.not_mem_nil, or_false] at mem
    rcases mem with rfl | rfl | rfl | rfl | rfl | rfl | rfl | rfl | rfl | rfl | rfl | rfl | rfl | rfl | rfl | rfl | rfl | rfl | rfl | rfl
    all_goals exact fun asks wrong => serve_of_wrong_length asks (exactly_of_length_ne wrong)
  · refine serve_of_wrong_length asks (Bool.eq_false_iff.2 fun fits => ?_)
    obtain ⟨some, long⟩ := (paramsFit_iff _).1 fits
    exact wrong.elim some (absurd long)
  · refine serve_of_wrong_length asks (Bool.eq_false_iff.2 fun fits => ?_)
    obtain ⟨two, long⟩ := (kernelFits_iff _).1 fits
    exact wrong.elim (Nat.not_lt.2 two) (absurd long)
  · unfold requestCommand
    iterate 22 refine exec_ite_of_same (serve_of_none (requestOf_of_full full _)) ?_
    exact execBadCommandRequest_of_full full

/-! ### START, STOP and RESTART (R169 to R171) -/

theorem ownStart_of_standby {s : State} (standby : s.mgmt.running = false) (ps : List Byte) : ownStart s ps =
    { state := { s.mapRecords fun r => r.started s.mgmt.secs with
        mgmt := { s.mgmt with running := true }
        sweep := { s.sweep with timer := some 0, period := s.mgmt.params.passPeriod } }
      status := .ok, results := pack32 s.mgmt.secs.toNat } := if_neg (by rw [standby]; decide)

theorem ownStart_of_running {s : State} (running : s.mgmt.running = true) (ps : List Byte) : ownStart s ps = s.refuse .wrongState :=
  if_pos running

theorem ownStop_of_running {s : State} (running : s.mgmt.running = true) (ps : List Byte) : ownStop s ps =
    { state := { s.stopQueue with mgmt := { s.stopQueue.mgmt with running := false }, sweep := s.stopQueue.sweep.halt }
      status := .ok, results := [] } := if_pos running

theorem ownStop_of_standby {s : State} (standby : s.mgmt.running = false) (ps : List Byte) : ownStop s ps = s.refuse .wrongState :=
  if_neg (by rw [standby]; decide)

/-- Settles O39. -/
theorem startAndStopSwitchProcessing : Obligations.StartAndStopSwitchProcessing := by
  refine ⟨fun s q asks params => ⟨fun standby => ?_, fun running => ?_⟩, fun s q asks params => ⟨fun running => ?_, fun standby => ?_⟩⟩
  · refine ⟨_, serve_of_requests ownStart asks (exactly_nil params), fun i => ?_, ?_⟩
    all_goals rw [ownStart_of_standby (s := s.dropRequest) standby]
    · exact State.record_mapRecords s.dropRequest _ i
    · rfl
  · exact serve_of_refused asks (exactly_nil params) (ownStart_of_running (s := s.dropRequest) running _)
  · refine ⟨_, serve_of_requests ownStop asks (exactly_nil params), fun i => ?_, ?_⟩
    all_goals rw [ownStop_of_running (s := s.dropRequest) running]
    · exact State.record_setPending_foldl _ s.downlink.queue i
    · rw [s.dropRequest.stopQueue_eq]; rfl
  · exact serve_of_refused asks (exactly_nil params) (ownStop_of_standby (s := s.dropRequest) standby _)

/-- Settles O40: the flush, and the response placed in the emptied FIFO. -/
theorem restartFlushesTheTraffic : Obligations.RestartFlushesTheTraffic := fun _ _ asks params =>
  ⟨_, serve_of_requests ownRestart asks (exactly_nil params), fun l => getElem_mapLanes _ (fun x => { x with fifo := [] }) l.val l.isLt, rfl⟩

/-! ### IDENTIFY and SET_TIME (R172, R174) -/

theorem read32_pack32_self (v : Word32) : read32 (pack32 v.toNat) 0 = v.toNat := by
  rw [← List.append_nil (pack32 v.toNat)]; exact read32_pack32 v.isLt []

theorem ownSetTime_of_standby {s : State} (standby : s.mgmt.running = false) (v : Word32) : ownSetTime s (pack32 v.toNat) =
    { state := { s with mgmt := { s.mgmt with secs := v } }, status := .ok, results := pack32 v.toNat } := by
  unfold ownSetTime
  rw [if_neg (by rw [standby]; decide), read32_pack32_self, BitVec.ofNat_toNat, BitVec.setWidth_eq]

/-- Settles O41. -/
theorem identifyReportsAndSetTimeWrites : Obligations.IdentifyReportsAndSetTimeWrites := by
  refine ⟨fun s q asks params => serve_of_requests ownIdentify asks (exactly_nil params), fun s q v asks params => ⟨fun standby => ?_, fun running => ?_⟩⟩
  · have taken := serve_of_requests ownSetTime asks (exactly_of_length (n := 4) (by rw [params]; rfl))
    rw [params, ownSetTime_of_standby (s := s.dropRequest) standby] at taken
    exact taken
  · exact serve_of_refused asks (exactly_of_length (n := 4) (by rw [params]; rfl)) (if_pos running)

/-! ### READ_DISCOVERY (R62, R177) -/

theorem read8_packFlag (b : Bool) (l : List Byte) : read8 (packFlag b ++ l) 0 = if b then 1 else 0 := by cases b <;> rfl

/-- A switch that follows a run of bytes is read as it was packed. -/
theorem readSwitch_append (front : List Byte) (b : Bool) (l : List Byte) {i : Nat} (at_ : i = front.length) :
    readSwitch (front ++ (packFlag b ++ l)) i = some b := by
  subst at_
  have byte : read8 (front ++ (packFlag b ++ l)) front.length = if b then 1 else 0 := by
    rw [← read8_packFlag b l]; exact read8_append_right front _ 0
  rw [readSwitch, byte]
  cases b <;> rfl

theorem readSwitch_packFlag (b : Bool) : readSwitch (packFlag b) 0 = some b := by cases b <;> rfl

/-- Settles O53. -/
theorem readDiscoveryReadsThenClears : Obligations.ReadDiscoveryReadsThenClears := by
  intro s q clear asks params
  have taken := serve_of_requests ownReadDiscovery asks (exactly_of_length (n := 1) (by rw [params]; rfl))
  rw [params, ownReadDiscovery, readSwitch_packFlag] at taken
  refine taken.trans (congrArg Host.Outcome.next ?_)
  cases clear <;> rfl

/-! ### READ_COUNTERS (R178, R184 to R186) -/

theorem groupOf_of_gt {n : Nat} (h : 8199 < n) : groupOf n = none := by
  unfold groupOf
  rw [slotOf_none.2 (by omega)]
  split
  · rename_i slot; cases slot
  · split
    case h_9 => rfl
    all_goals omega

theorem groupOf_slot (i : Slot) : groupOf i.val = some (.bin i) := by
  unfold groupOf
  rw [slotOf_val]

theorem groupOf_bin {n : Nat} {i : Slot} (h : groupOf n = some (.bin i)) : n = i.val := by
  unfold groupOf at h
  split at h
  · rename_i j slot
    obtain rfl : j = i := by simpa using h
    unfold slotOf at slot
    split at slot
    · cases slot; rfl
    · cases slot
  · split at h <;> cases h

theorem State.packGroup_dropRequest (s : State) (g : CounterGroup) : s.dropRequest.packGroup g = s.packGroup g := by cases g <;> rfl

theorem State.clearGroup_place (s : State) (g : CounterGroup) (q : Request) (a : Status) (b : List Byte) :
    (s.clearGroup g).respond q a b = (s.respond q a b).clearGroup g := by cases g <;> rfl

theorem execReadCounters_of_params {s : State} {q : Request} {n : Nat} {clear : Bool} (asks : Requests s 0x34 q) (fits : n < 65536)
    (params : q.params = pack16 n ++ packFlag clear) : exec .readCounters s = .next (Reply.place (
      match groupOf n with
      | some g => if s.groupFree g then s.dropRequest.refuse .notFound else
          { state := if clear then s.dropRequest.clearGroup g else s.dropRequest, status := .ok,
            results := pack16 n ++ packFlag clear ++ pack32 s.mgmt.secs.toNat ++ s.packGroup g }
      | none => s.dropRequest.refuse .badParam) q) := by
  have taken := serve_of_requests ownReadCounters asks (exactly_of_length (n := 3) (by rw [params]; rfl))
  have switch : readSwitch (pack16 n ++ packFlag clear) 2 = some clear := by
    have := readSwitch_append (pack16 n) clear [] (i := 2) rfl
    rwa [List.append_nil] at this
  refine taken.trans (congrArg (fun a : Reply => Host.Outcome.next (a.place q)) ?_)
  rw [params, ownReadCounters, read16_pack16 fits, switch]
  cases groupOf n with
  | none => rfl
  | some g =>
    dsimp only
    rw [State.packGroup_dropRequest]
    cases g <;> rfl

/-- The counters of a group, which stand before its state. -/
theorem drop_counters {counters zeros : List Byte} {n : Nat} (state : List Byte) (length : counters.length = n)
    (zero : zeros = List.replicate n 0) : zeros ++ state = List.replicate n 0 ++ (counters ++ state).drop n := by
  rw [List.drop_left' length, zero]

/-- Words of zero, then what stood there before. -/
theorem zeroWords_append {before after : List Byte} (words : Nat) (zero : after.take (4 * words) = (List.replicate words (pack32 0)).flatten)
    (kept : after.drop (4 * words) = before.drop (4 * words)) :
    after = List.replicate (4 * words) 0 ++ before.drop (4 * words) := by
  have word : pack32 0 = List.replicate 4 (0 : Byte) := by decide
  rw [word, List.flatten_replicate_replicate, Nat.mul_comm words] at zero
  rw [← kept, ← zero, List.take_append_drop]

theorem LaneCounters.pack_length (c : LaneCounters) : c.pack.length = 32 := rfl

theorem BinCounters.pack_length (c : BinCounters) : c.pack.length = 20 := rfl

theorem flatten_map_length {α : Type} {n : Nat} (pack : α → List Byte) (fixed : ∀ a, (pack a).length = n) (l : List α) :
    (l.map pack).flatten.length = n * l.length := by
  induction l with
  | nil => rfl
  | cons a l ih => rw [List.map_cons, List.flatten_cons, List.length_append, ih, fixed, List.length_cons, Nat.mul_succ, Nat.add_comm]

/-- The bytes of counters that a group begins with (R184). -/
def counterBytes : CounterGroup → Nat
  | .bin _ => 20
  | .lane => 128
  | .filter => 72
  | .copy => 8
  | .binProcessing => 24
  | .fill => 16
  | .downlink => 20
  | .egress => 20
  | .interval => 0

theorem State.packGroup_clearGroup (s : State) (g : CounterGroup) :
    (s.clearGroup g).packGroup g = List.replicate (counterBytes g) (0 : Byte) ++ (s.packGroup g).drop (counterBytes g) := by
  cases g with
  | bin i =>
    have cleared : (s.clearGroup (.bin i)).record i = { s.record i with counters := BinCounters.zero } := State.record_modRecord_self ..
    simp only [State.packGroup, cleared, List.append_assoc]
    exact drop_counters _ (BinCounters.pack_length _) (show BinCounters.zero.pack = List.replicate 20 0 by decide)
  | lane =>
    exact drop_counters _ (by rw [flatten_map_length _ LaneCounters.pack_length, Vector.length_toList]; rfl)
      (show ((Vector.replicate 4 LaneCounters.zero).toList.map LaneCounters.pack).flatten = List.replicate 128 0 by decide)
  | filter =>
    have words : (s.stats.counters.matched.toList.map pack32).flatten.length = 64 := by
      rw [flatten_map_length (n := 4) pack32 (fun _ => rfl), Vector.length_toList]
    have zeros : ((Vector.replicate 16 0).toList.map pack32).flatten ++ pack32 0 ++ pack32 0 = List.replicate 72 (0 : Byte) := by decide
    have counted : ((s.stats.counters.matched.toList.map pack32).flatten ++ pack32 s.stats.counters.defaultFrames ++
        pack32 s.stats.counters.lengthFailures).length = 72 := by
      rw [List.length_append, List.length_append, words]; rfl
    have dropped := drop_counters [] counted zeros
    rwa [List.append_nil, List.append_nil] at dropped
  | copy => exact zeroWords_append 2 rfl rfl
  | binProcessing => exact zeroWords_append 6 rfl rfl
  | fill => exact zeroWords_append 4 rfl rfl
  | downlink => exact zeroWords_append 5 rfl rfl
  | egress => exact zeroWords_append 5 rfl rfl
  | interval => rfl

/-- Settles O54. -/
theorem readCountersReadsThenClears : Obligations.ReadCountersReadsThenClears := by
  refine ⟨fun s q n clear asks fits params => ⟨fun beyond => ?_, fun i slot free => ?_, fun g group provisioned => ?_⟩,
    fun s g => ?_, fun s => ⟨fun i => rfl, rfl, rfl, rfl, rfl, rfl, rfl, rfl, rfl⟩⟩
  · rw [execReadCounters_of_params asks fits params, groupOf_of_gt beyond]; rfl
  · have isFree : s.groupFree (.bin i) = true := beq_iff_eq.2 free
    rw [execReadCounters_of_params asks fits params, slot, groupOf_slot]
    dsimp only
    rw [if_pos isFree]; rfl
  · rw [execReadCounters_of_params asks fits params, group]
    dsimp only
    rw [if_neg]
    · cases clear with
      | false => rfl
      | true => exact congrArg Host.Outcome.next (State.clearGroup_place ..)
    · cases g with
      | bin i => exact fun free => provisioned i (groupOf_bin group) (beq_iff_eq.1 free)
      | lane | filter | copy | binProcessing | fill | downlink | egress | interval => exact Bool.noConfusion
  · cases g <;> exact s.packGroup_clearGroup _

/-! ### The digest (R152, R153) -/

/-- The Notice Unit at a grant, with what the digest took counted as its length. -/
theorem NoticeUnit.digested_eq (u : NoticeUnit) {taken remaining : Nat} (took : (u.queue.take 20).length = taken)
    (left : (if u.flushPending then u.flushRemaining - taken else u.flushRemaining) = remaining) :
    u.digested = { queue := u.queue.drop 20, lost := 0, digestSequence := u.digestSequence + 1,
                   flushPending := if remaining = 0 then false else u.flushPending, flushRemaining := remaining } := by
  subst took left
  unfold NoticeUnit.digested
  rw [List.length_take]
  cases u.flushPending with
  | false => simp
  | true =>
    have remains (n : Nat) : (true && n != 0) = if n = 0 then false else true := by cases n <;> rfl
    simp only [if_true, remains, Config.digestMax]

theorem State.digest_eq (s : State) : s.digest = envelope 0x82 (pack16 s.notices.digestSequence.toNat ++ pack16 s.notices.lost ++
    pack32 s.mgmt.secs.toNat ++ pack8 (s.notices.queue.take 20).length ++
      ((s.notices.queue.take 20).map fun n => n.notice.pack).flatten) := by
  unfold State.digest digestFrame
  rw [List.length_map, List.map_map]; rfl

/-- Settles O59. -/
theorem digestTakesTheOldestNotices : Obligations.DigestTakesTheOldestNotices := by
  refine ⟨fun s q asks params => serve_of_requests ownFlushDigest asks (exactly_nil params), fun s idle empty guard ready => ?_⟩
  have free : ¬s.forced := fun ⟨queued, spent⟩ => guard.elim queued (Nat.not_lt.2 spent)
  have chosen := State.egressChoice_digest_iff.2 ⟨idle, free, empty, s.digestReady_iff.2 ready⟩
  intro taken left payload head
  refine congrArg Host.Outcome.next ((if_pos chosen).trans ?_)
  rw [s.notices.digested_eq rfl rfl, s.digest_eq]
  rfl

end Sys2Proof.Machine

/-! PROOF. Band confirmation and reconciliation (O20). -/

namespace Sys2Proof.Machine

open Sys2Proof.Safety

/-! ### The majority test (R99) -/

/-- Two majorities of one list meet in an entry: a band from which most stand at or above is not above one below which most stand. -/
theorem majorities_meet {kC : Nat} {l : List Band} (majority : l.length < 2 * kC) {up down : Band}
    (above : kC ≤ countAtOrAbove l up) (below : kC ≤ countAtOrBelow l down) : up.rank ≤ down.rank := by
  by_contra apart
  have disjoint : countAtOrAbove l up ≤ l.countP fun x => !decide (x.rank ≤ down.rank) := by
    refine List.countP_mono_left fun x _ stands => ?_
    simp only [decide_eq_true_eq, Bool.not_eq_true', decide_eq_false_iff_not] at stands ⊢
    omega
  have whole := List.length_eq_countP_add_countP (fun x : Band => decide (x.rank ≤ down.rank)) (l := l)
  simp only [countAtOrBelow, decide_eq_true_eq] at below whole disjoint
  simp only [decide_not] at whole disjoint
  omega

theorem confirmedBand_of_up {kC : Nat} {l : List Band} {held b : Band} (above : held.rank < b.rank) (majority : kC ≤ countAtOrAbove l b) :
    held.rank < (confirmedBand kC l held).rank ∧ kC ≤ countAtOrAbove l (confirmedBand kC l held) ∧
      b.rank ≤ (confirmedBand kC l held).rank := by
  by_cases full : kC ≤ countAtOrAbove l .full
  · have moves : confirmedBand kC l held = .full := if_pos ⟨fun h => by subst h; cases b <;> exact absurd above (by decide), full⟩
    rw [moves]
    exact ⟨above.trans_le (by cases b <;> decide), full, by cases b <;> decide⟩
  · obtain ⟨rfl, rfl⟩ : held = .low ∧ b = .near := by
      cases b with
      | low => exact absurd above (Nat.not_lt_zero _)
      | near => cases held <;> simp_all [Band.rank]
      | full => exact absurd majority full
    have moves : confirmedBand kC l .low = .near := (if_neg fun h => full h.2).trans (if_pos ⟨rfl, majority⟩)
    rw [moves]
    exact ⟨above, majority, le_rfl⟩

theorem confirmedBand_of_down {kC : Nat} {l : List Band} {held b : Band} (noUp : ∀ a : Band, held.rank < a.rank → ¬kC ≤ countAtOrAbove l a)
    (below : b.rank < held.rank) (majority : kC ≤ countAtOrBelow l b) :
    (confirmedBand kC l held).rank < held.rank ∧ kC ≤ countAtOrBelow l (confirmedBand kC l held) ∧
      (confirmedBand kC l held).rank ≤ b.rank := by
  have high : held ≠ .low := fun h => by subst h; exact absurd below (Nat.not_lt_zero _)
  have noFull : ¬(held ≠ .full ∧ kC ≤ countAtOrAbove l .full) := fun ⟨ne, h⟩ => noUp .full (by cases held <;> simp_all [Band.rank]) h
  have noNear : ¬(held = .low ∧ kC ≤ countAtOrAbove l .near) := fun h => high h.1
  by_cases low : kC ≤ countAtOrBelow l .low
  · have moves : confirmedBand kC l held = .low := (if_neg noFull).trans ((if_neg noNear).trans (if_pos ⟨high, low⟩))
    rw [moves]
    exact ⟨(Nat.zero_le _).trans_lt below, low, Nat.zero_le _⟩
  · obtain ⟨rfl, rfl⟩ : held = .full ∧ b = .near := by
      cases b with
      | low => exact absurd majority low
      | near => cases held <;> simp_all [Band.rank]
      | full => cases held <;> exact absurd below (by decide)
    have moves : confirmedBand kC l .full = .near :=
      (if_neg noFull).trans ((if_neg noNear).trans ((if_neg fun h => low h.2).trans (if_pos ⟨rfl, majority⟩)))
    rw [moves]
    exact ⟨below, majority, le_rfl⟩

theorem confirmedBand_of_neither {kC : Nat} {l : List Band} {held : Band} (noUp : ∀ a : Band, held.rank < a.rank → ¬kC ≤ countAtOrAbove l a)
    (noDown : ∀ a : Band, a.rank < held.rank → ¬kC ≤ countAtOrBelow l a) : confirmedBand kC l held = held := by
  unfold confirmedBand
  cases held with
  | low => simp [noUp .full (by decide), noUp .near (by decide)]
  | near => simp [noUp .full (by decide), noDown .low (by decide)]
  | full => simp [noDown .low (by decide), noDown .near (by decide)]

/-! ### Reconciliation (R105) -/

theorem bucketOf_val {e : Nat} (small : e ≤ 1000) : (bucketOf e).val = e / 16 := Nat.min_eq_left (by omega)

theorem State.reconcile_of_unlisted {s : State} {i : Slot} {r : BinRecord} (off : r.links = none) (old : Band) (e : Nat) :
    (s.setRecord i r).reconcile i old e =
      if r.band = .low then s.setRecord i r else (s.setRecord i r).joinList i r.band (bucketOf e) := by
  simp only [State.reconcile, State.record_setRecord_self, off]

theorem State.reconcile_of_listed {s : State} {i : Slot} {r : BinRecord} {m : VisitLinks} (on : r.links = some m) (old : Band) (e : Nat) :
    (s.setRecord i r).reconcile i old e =
      if r.band = .low then (s.setRecord i r).leaveList i old
      else if r.band = old ∧ m.bucket = bucketOf e then s.setRecord i r
      else (s.setRecord i r).moveList i old m.bucket r.band (bucketOf e) := by
  simp only [State.reconcile, State.record_setRecord_self, on]

/-- Settles O20. -/
theorem confirmationMovesBandListAndPlace : Obligations.ConfirmationMovesBandListAndPlace := by
  refine ⟨fun nC kC l held majority long => ?_, fun s i e => s.confirm_eq i e, fun s i b e sound small => ?_⟩
  · intro up down new
    refine ⟨?_, ?_, ?_, ?_⟩
    · rintro ⟨b, above, most⟩
      obtain ⟨rises, supported, _⟩ := confirmedBand_of_up above most
      exact ⟨⟨rises, supported⟩, fun a ⟨above, most⟩ => (confirmedBand_of_up above most).2.2⟩
    · rintro ⟨b, below, most⟩
      have noUp (a : Band) (above : held.rank < a.rank) (most' : kC ≤ countAtOrAbove l a) : False :=
        absurd (majorities_meet (long.trans_lt majority) most' most) (by omega)
      obtain ⟨falls, supported, _⟩ := confirmedBand_of_down noUp below most
      exact ⟨⟨falls, supported⟩, fun a ⟨below, most⟩ => (confirmedBand_of_down noUp below most).2.2⟩
    · exact fun noUp noDown => confirmedBand_of_neither (fun a above most => noUp ⟨a, above, most⟩) fun a below most => noDown ⟨a, below, most⟩
    · rintro ⟨⟨a, above, most⟩, b, below, most'⟩
      exact absurd (majorities_meet (long.trans_lt majority) most most') (by omega)
  · intro r t
    refine ⟨bucketOf e, bucketOf_val small, fun off low => ?_, fun off high => ?_, fun m on => ⟨fun same here => ?_, fun low => ?_, fun high moves => ?_⟩⟩
    · exact (State.reconcile_of_unlisted (r := { r with band := b }) off _ e).trans (if_pos low)
    · exact (State.reconcile_of_unlisted (r := { r with band := b }) off _ e).trans ((if_neg high).trans (s.joinList_joined i _ high _))
    · have high : b ≠ .low := same ▸ ((sound.membership i).1 (by rw [on]; rfl)).2.2
      refine (State.reconcile_of_listed (r := { r with band := b }) on _ e).trans ((if_neg high).trans ((if_pos ⟨same, here⟩).trans ?_))
      subst same
      exact s.setRecord_record i
    · have leaves : t = (s.setRecord i { r with band := b }).leaveList i r.band :=
        (State.reconcile_of_listed (r := { r with band := b }) on _ e).trans (if_pos low)
      obtain ⟨left, self⟩ := State.leaveList_left sound (i := i) (r := { r with band := b }) rfl
      rw [← leaves] at left self
      exact ⟨left.behind, self, left.visits ▸ ((s.setRecord_onlyList i _).trans (State.reconcile_onlyList ..)).eq⟩
    · have move : t = (s.setRecord i { r with band := b }).moveList i r.band m.bucket b (bucketOf e) :=
        (State.reconcile_of_listed (r := { r with band := b }) on _ e).trans
          ((if_neg high).trans (if_neg fun stays => moves.elim (absurd stays.1) (absurd stays.2)))
      obtain ⟨behind, self, visits⟩ := State.moveList_left (r := { r with band := b }) sound on high (bucketOf e)
      rw [← move] at behind self visits
      exact ⟨behind, self, visits ▸ ((s.setRecord_onlyList i _).trans (State.reconcile_onlyList ..)).eq⟩

end Sys2Proof.Machine

/-! PROOF. The work of a reading: heard, set aside, collected, stored, re-measured, applied (O21). -/

namespace Sys2Proof.Machine

open Sys2Proof.Safety

/-! ### A record rewritten and notices raised (R69 to R71) -/

/-- A slot's record written, and notices raised in order. -/
def State.written (s : State) (i : Slot) (r : BinRecord) (ns : List Notice) : State := ns.foldl State.notify (s.setRecord i r)

section
variable (s : State) (i : Slot) (r : BinRecord) (ns : List Notice)

theorem State.foldl_notify_setRecord (t : State) (q : BinRecord) :
    (ns.foldl State.notify t).setRecord i q = ns.foldl State.notify (t.setRecord i q) := by
  induction ns generalizing t with
  | nil => rfl
  | cons n ns ih => rw [List.foldl_cons, List.foldl_cons, ih, State.setRecord_notify]

theorem State.foldl_notify_keeps {α : Type} (f : State → α) (kept : ∀ (t : State) (n : Notice), f (t.notify n) = f t) (t : State) :
    f (ns.foldl State.notify t) = f t := by
  induction ns generalizing t with
  | nil => rfl
  | cons n ns ih => rw [List.foldl_cons, ih, kept]

theorem State.written_record : (s.written i r ns).record i = r :=
  (State.foldl_notify_keeps ns (fun t => t.record i) (fun t n => t.record_notify n i) _).trans (State.record_setRecord_self ..)

theorem State.written_mgmt : (s.written i r ns).mgmt = s.mgmt := State.foldl_notify_keeps ns State.mgmt State.notify_mgmt _

theorem State.written_stores : (s.written i r ns).stores = s.stores := State.foldl_notify_keeps ns State.stores State.notify_stores _

theorem State.written_classOf (same : r.cls = (s.record i).cls) : (s.written i r ns).classOf i = s.classOf i := by
  rw [State.classOf, State.classOf, State.classDesc, State.classDesc, State.written_stores, State.written_record, same]

theorem State.written_modRecord (f : BinRecord → BinRecord) : (s.written i r ns).modRecord i f = s.written i (f r) ns := by
  rw [State.modRecord, State.written_record, State.written, State.foldl_notify_setRecord, State.setRecord_setRecord]
  rfl

theorem State.written_notifySlot (b : NoticeBody) : (s.written i r ns).notifySlot i b =
    s.written i r (ns ++ [{ time := s.mgmt.secs, slot := some i, identifier := some r.identifier, body := b }]) := by
  rw [State.notifySlot, State.written_record, State.written_mgmt, State.written, State.written, List.foldl_append]
  rfl

/-! ### The latches -/

/-- The notice of an event at a record. -/
def State.eventNote (s : State) (i : Slot) (r : BinRecord) (event : SensorEvent) (change : EventChange) (temperature : Option Int) : Notice :=
  { time := s.mgmt.secs, slot := some i, identifier := some r.identifier, body := .event event change temperature none none }

/-- A latch that follows a flag (R69). -/
def followed (flag : Option Bool) (latch : Bool) : Bool :=
  match flag with
  | some f => f
  | none => latch

/-- The HEAT latch after a Sample's temperature (R70). -/
def heatAfter (threshold : Int) (temperature : Option Int) (latch : Bool) : Bool :=
  match temperature with
  | none => latch
  | some d => if threshold = 127 then false else if latch = true then decide (threshold - 5 < d) else decide (threshold ≤ d)

theorem latchChange_eq (flag : Option Bool) (latch : Bool) :
    latchChange flag latch = if followed flag latch = latch then none else some (followed flag latch) := by
  cases flag with
  | none => exact (if_pos rfl).symm
  | some f => rfl

theorem heatChange_eq (threshold : Int) (temperature : Option Int) (latch : Bool) :
    heatChange threshold temperature latch =
      if heatAfter threshold temperature latch = latch then none else some (heatAfter threshold temperature latch) := by
  cases temperature with
  | none => exact (if_pos rfl).symm
  | some d =>
    by_cases off : threshold = 127
    · cases latch <;> simp [heatChange, heatAfter, off]
    · cases latch with
      | false => by_cases hot : threshold ≤ d <;> simp [heatChange, heatAfter, off, hot]
      | true =>
        have cools : d ≤ threshold - 5 ↔ ¬threshold - 5 < d := Int.not_lt.symm
        by_cases hot : threshold - 5 < d <;> simp [heatChange, heatAfter, off, hot, cools]

/-- A latch of a record moved where it changes, with its notice (R69, R70). -/
def State.latched (s : State) (i : Slot) (change : Option Bool) (f : Bool → BinRecord → BinRecord) (body : Bool → NoticeBody) : State :=
  match change with
  | none => s
  | some v => (s.modRecord i (f v)).notifySlot i (body v)

theorem State.lidLatch_eq (s : State) (i : Slot) (x : Sample) : s.lidLatch i x =
    s.latched i (latchChange x.lid (s.record i).lid) (fun v r => { r with lid := v }) fun v => .event .lid (changeOf v) none none none := rfl

theorem State.tiltLatch_eq (s : State) (i : Slot) (x : Sample) : s.tiltLatch i x =
    s.latched i (latchChange x.tilt (s.record i).tilt) (fun v r => { r with tilt := v }) fun v => .event .tilt (changeOf v) none none none := rfl

theorem State.heatLatch_eq (s : State) (i : Slot) (x : Sample) : s.heatLatch i x =
    s.latched i (heatChange (s.classOf i).heatThreshold x.temperature (s.record i).heat) (fun v r => { r with heat := v })
      fun v => .event .heat (changeOf v) x.temperature none none := rfl

/-- A latch worked at a record written before: the record with the latch's new value, and a notice where it differs. -/
theorem State.written_latched {now latch : Bool} (f : Bool → BinRecord → BinRecord) (body : Bool → NoticeBody)
    (unchanged : now = latch → f now r = r) (identifier : (f now r).identifier = r.identifier) :
    (s.written i r ns).latched i (if now = latch then none else some now) f body =
    s.written i (f now r) (ns ++ (if now = latch then []
      else [{ time := s.mgmt.secs, slot := some i, identifier := some r.identifier, body := body now }])) := by
  by_cases same : now = latch
  · rw [if_pos same, if_pos same, unchanged same, List.append_nil]; rfl
  · rw [if_neg same, if_neg same, State.latched, State.written_modRecord, State.written_notifySlot, identifier]

theorem State.written_lidLatch (x : Sample) : (s.written i r ns).lidLatch i x =
    s.written i { r with lid := followed x.lid r.lid } (ns ++ (if followed x.lid r.lid = r.lid then []
      else [s.eventNote i r .lid (changeOf (followed x.lid r.lid)) none])) := by
  rw [State.lidLatch_eq, State.written_record, latchChange_eq]
  exact s.written_latched i r ns _ _ (fun same => by rw [same]) rfl

theorem State.written_tiltLatch (x : Sample) : (s.written i r ns).tiltLatch i x =
    s.written i { r with tilt := followed x.tilt r.tilt } (ns ++ (if followed x.tilt r.tilt = r.tilt then []
      else [s.eventNote i r .tilt (changeOf (followed x.tilt r.tilt)) none])) := by
  rw [State.tiltLatch_eq, State.written_record, latchChange_eq]
  exact s.written_latched i r ns _ _ (fun same => by rw [same]) rfl

theorem State.written_shatterEvent (x : Sample) : (s.written i r ns).shatterEvent i x =
    s.written i r (ns ++ (if x.shatter = some true then [s.eventNote i r .shatter .occurred none] else [])) := by
  unfold State.shatterEvent
  by_cases shatters : x.shatter = some true
  · rw [if_pos shatters, if_pos shatters, State.written_notifySlot]; rfl
  · rw [if_neg shatters, if_neg shatters, List.append_nil]

theorem State.written_heatLatch (x : Sample) (same : r.cls = (s.record i).cls) : (s.written i r ns).heatLatch i x =
    s.written i { r with heat := heatAfter (s.classOf i).heatThreshold x.temperature r.heat }
      (ns ++ (if heatAfter (s.classOf i).heatThreshold x.temperature r.heat = r.heat then []
        else [s.eventNote i r .heat (changeOf (heatAfter (s.classOf i).heatThreshold x.temperature r.heat)) x.temperature])) := by
  rw [State.heatLatch_eq, State.written_record, State.written_classOf s i r ns same, heatChange_eq]
  exact s.written_latched i r ns _ _ (fun same => by rw [same]) rfl

end

/-- The record of a heard Sample (R69 to R71). -/
def BinRecord.heardOf (r : BinRecord) (now : Word32) (threshold : Int) (x : Sample) : BinRecord :=
  { r with lastHeard := now, lid := followed x.lid r.lid, tilt := followed x.tilt r.tilt, heat := heatAfter threshold x.temperature r.heat }

/-- The notices of a heard Sample, in order (R69, R70). -/
def State.heardNotes (s : State) (i : Slot) (x : Sample) : List Notice :=
  let r := s.record i
  let heat := heatAfter (s.classOf i).heatThreshold x.temperature r.heat
  (if followed x.lid r.lid = r.lid then [] else [s.eventNote i r .lid (changeOf (followed x.lid r.lid)) none]) ++
  (if followed x.tilt r.tilt = r.tilt then [] else [s.eventNote i r .tilt (changeOf (followed x.tilt r.tilt)) none]) ++
  (if x.shatter = some true then [s.eventNote i r .shatter .occurred none] else []) ++
  (if heat = r.heat then [] else [s.eventNote i r .heat (changeOf heat) x.temperature])

theorem State.heard_eq (s : State) (i : Slot) (x : Sample) :
    s.heard i x = s.written i ((s.record i).heardOf s.mgmt.secs (s.classOf i).heatThreshold x) (s.heardNotes i x) := by
  change ((((s.written i { s.record i with lastHeard := s.mgmt.secs } []).lidLatch i x).tiltLatch i x).shatterEvent i x).heatLatch i x = _
  rw [State.written_lidLatch, State.written_tiltLatch, State.written_shatterEvent, State.written_heatLatch]
  · rfl
  · rfl

theorem State.record_heard (s : State) (i : Slot) (x : Sample) :
    (s.heard i x).record i = (s.record i).heardOf s.mgmt.secs (s.classOf i).heatThreshold x := by
  rw [State.heard_eq, State.written_record]

/-! ### The RANGE check (R80 to R82) -/

theorem rangeFails_iff (c : ClassDesc) (raw distance : Nat) :
    rangeFails c raw distance = true ↔ raw = 0 ∨ raw = 65535 ∨ distance < c.minDistance ∨ c.maxDistance < distance := by
  simp [rangeFails, or_assoc]

section
variable {s : State} {i : Slot} {x : Sample} {contiguous : Bool}

theorem State.workAccepted_of_untilted_drop (fails : rangeFails (s.classOf i) x.raw (distanceOf x.kind x.raw x.temperature) = true)
    (upright : x.tilt ≠ some true) (policy : s.mgmt.params.rangePolicy = .drop) :
    s.workAccepted i x contiguous = s.countMarked i true := by
  rw [State.workAccepted_eq]
  simp only [fails, decide_eq_false upright]
  exact if_pos (decide_eq_true policy)

theorem State.workAccepted_of_untilted_mark (fails : rangeFails (s.classOf i) x.raw (distanceOf x.kind x.raw x.temperature) = true)
    (upright : x.tilt ≠ some true) (policy : s.mgmt.params.rangePolicy = .mark) :
    s.workAccepted i x contiguous = (((s.countMarked i true).heard i x).arrival i contiguous).unusableReading i (some .range) := by
  rw [State.workAccepted_eq]
  simp only [fails, decide_eq_false upright]
  refine (if_neg ?_).trans (if_pos rfl)
  change ¬decide (s.mgmt.params.rangePolicy = .drop) = true
  rw [policy]; decide

theorem State.workAccepted_of_tilted (tilted : x.tilt = some true) :
    s.workAccepted i x contiguous = (((s.countMarked i true).heard i x).arrival i contiguous).unusableReading i none := by
  rw [State.workAccepted_eq]
  simp only [decide_eq_true tilted, Bool.or_true, Bool.not_true, Bool.and_false]
  rfl

theorem State.workAccepted_of_usable (passes : rangeFails (s.classOf i) x.raw (distanceOf x.kind x.raw x.temperature) = false)
    (upright : x.tilt ≠ some true) : s.workAccepted i x contiguous =
      ((s.heard i x).arrival i contiguous).workFill i (distanceOf x.kind x.raw x.temperature) (s.record i).liveness := by
  have live : ((s.heard i x).record i).liveness = (s.record i).liveness := by rw [State.record_heard]; rfl
  rw [State.workAccepted_eq]
  simp only [passes, decide_eq_false upright]
  rw [← live]
  rfl

end

/-! ### The fill stages (R84 to R88) -/

theorem fallCollects_iff (c : ClassDesc) (r : Ring) (fill : Nat) :
    fallCollects c r fill = true ↔ 1 ≤ r.occupancy ∧ fill + c.collectDrop ≤ r.cell 0 ∧ fill ≤ c.collectFloor := by
  simp [fallCollects, and_assoc]

theorem riseRejected_iff (c : ClassDesc) (r : Ring) (old : Liveness) (fill : Nat) :
    riseRejected c r old fill = true ↔ 1 ≤ r.occupancy ∧ old ≠ .silent ∧ old ≠ .recovering ∧ r.cell 0 + c.maxRise < fill := by
  simp [riseRejected, and_assoc]

theorem OnlyList.notify {s t : State} (h : OnlyList s t) (n : Notice) :
    t.notify n = { s.notify n with visits := t.visits, bins := { s.bins with records := t.bins.records } } := by
  obtain ⟨v, rs, rfl⟩ := h
  by_cases room : s.notices.queue.length < Config.noticeQueueSize
  · simp only [State.notify, room, if_true]
  · simp only [State.notify, room, if_false]

/-- A collection changes the Visit List and the records, and raises its notice and its counter. -/
theorem State.collect_onlyList (s : State) (i : Slot) (fill : Nat) :
    s.collect i fill =
      { (s.notify
          { time := s.mgmt.secs, slot := some i, identifier := some (s.record i).identifier
            body := .collected (s.record i).estimate fill (s.record i).band (if (s.record i).visitMark then .visit else .drop) }).modCounters
          fun k => { k with collections := inc32 k.collections } with
        visits := (s.collect i fill).visits
        bins := { s.bins with records := (s.collect i fill).bins.records } } := by
  have list : OnlyList s ((s.leaveList i (s.record i).band).setRecord i ((s.record i).collected fill s.mgmt.secs)) :=
    (s.leaveList_onlyList i _).trans (State.setRecord_onlyList ..)
  have whole := s.collect_eq i fill
  rw [list.notify] at whole
  generalize s.collect i fill = t at whole
  subst whole
  rfl

theorem State.collect_left {s : State} (sound : VisitListSound s) (i : Slot) (fill : Nat) :
    Left s i (s.collect i fill) ∧ (s.collect i fill).record i = (s.record i).collected fill s.mgmt.secs := by
  obtain ⟨left, -⟩ := State.leaveList_left sound (i := i) (r := s.record i) rfl
  rw [State.setRecord_record] at left
  have records : ∀ j, (s.collect i fill).record j =
      ((s.leaveList i (s.record i).band).setRecord i ((s.record i).collected fill s.mgmt.secs)).record j := fun j => by
    rw [State.collect_eq, State.record_modCounters, State.record_notify]
  refine ⟨⟨?_, fun j ne => ?_⟩, ?_⟩
  · rw [State.collect_eq, State.modCounters_visits, State.notify_visits]; exact left.visits
  · rw [records, State.record_setRecord_ne _ _ ne.symm]; exact left.behind j ne
  · rw [records, State.record_setRecord_self]

/-! ### The re-measure handling (R131 to R134) -/

section
variable {s : State} {i : Slot} {trigger : Option Trigger}

theorem State.unusableReading_of_unwanted (h : ¬(trigger ≠ none ∨ (s.record i).pendingFlag = true) ∨ (s.classOf i).reMeasure = false) :
    s.unusableReading i trigger = s := by
  unfold State.unusableReading
  rcases h with unwanted | disabled
  · obtain ⟨absent, clear⟩ := not_or.1 unwanted
    exact if_pos ⟨Option.isNone_iff_eq_none.2 (not_not.1 absent), Bool.eq_false_iff.2 clear⟩
  · refine (congrArg (ite _ s) (if_pos disabled)).trans (ite_self s)

theorem State.unusableReading_of_wanted (wanted : trigger ≠ none ∨ (s.record i).pendingFlag = true) (enabled : (s.classOf i).reMeasure = true) :
    s.unusableReading i trigger =
      if (s.record i).attempts = 0 then s.declareSuspect i (trigger.getD .pending) else s.requestReMeasure i := by
  refine (if_neg fun ⟨absent, clear⟩ => ?_).trans (if_neg (by rw [enabled]; decide))
  rcases wanted with some | pending
  · exact some (Option.isNone_iff_eq_none.1 absent)
  · rw [pending] at clear; cases clear

theorem State.declareSuspect_of_normal (normal : (s.record i).sensor = .normal) (cause : Trigger) :
    s.declareSuspect i cause = (s.setRecord i { s.record i with pendingFlag := false, sensor := .suspect }).notify
      { time := s.mgmt.secs, slot := some i, identifier := some (s.record i).identifier, body := .sensor .normal .suspect (some cause) 0 } := by
  refine (if_pos normal).trans ?_
  rw [State.notifySlot, State.record_modRecord_self]
  rfl

theorem State.declareSuspect_of_suspect (suspect : (s.record i).sensor = .suspect) (cause : Trigger) :
    s.declareSuspect i cause = s.setRecord i { s.record i with pendingFlag := false } := by
  refine (if_neg (by rw [suspect]; decide)).trans ?_
  rw [State.modRecord, ← suspect]

theorem State.restore_of_normal (normal : (s.record i).sensor = .normal) : s.restore i =
    s.setRecord i { s.record i with attempts := (s.classOf i).maxAttempts, pendingFlag := false, sensor := .normal } :=
  if_neg (by rw [normal]; decide)

theorem State.restore_of_suspect (suspect : (s.record i).sensor = .suspect) : s.restore i =
    (s.setRecord i { s.record i with attempts := (s.classOf i).maxAttempts, pendingFlag := false, sensor := .normal }).notify
      { time := s.mgmt.secs, slot := some i, identifier := some (s.record i).identifier
        body := .sensor .suspect .normal none (s.classOf i).maxAttempts } := by
  refine (if_pos suspect).trans ?_
  rw [State.notifySlot, State.record_modRecord_self]
  rfl

theorem State.newEntry_eq {arrival : Word32} (last : (s.record i).lastArrival = some arrival) : s.newEntry i =
    { slot := i, identifier := (s.record i).identifier, opens := arrival + BitVec.ofNat 32 (s.classOf i).rxDelay
      closes := arrival + BitVec.ofNat 32 (s.classOf i).rxDelay + BitVec.ofNat 32 (s.classOf i).windowLength
      state := (s.newEntry i).state } := by
  simp only [State.newEntry, last, Option.getD_some]

theorem State.newEntry_due_iff {arrival : Word32} (last : (s.record i).lastArrival = some arrival) :
    (s.newEntry i).state = .due ↔ (s.mgmt.ms - (arrival + BitVec.ofNat 32 (s.classOf i).rxDelay)).toNat < 2147483648 := by
  simp only [State.newEntry, last, Option.getD_some, ← atOrAfter_iff]
  cases atOrAfter s.mgmt.ms (arrival + BitVec.ofNat 32 (s.classOf i).rxDelay) <;> simp

theorem State.applied_eq (s : State) (i : Slot) :
    ∃ e, ((s.estimate i).record i).estimate = some e ∧ s.applied i = ((s.estimate i).confirm i e).restore i := by
  obtain ⟨e, low, high, x, written, -⟩ := s.estimate_eq i
  have value : ((s.estimate i).record i).estimate = some e := by rw [written, State.record_setRecord_self]
  refine ⟨e, value, ?_⟩
  change ((s.estimate i).confirm i (((s.estimate i).record i).estimate.getD 0)).restore i = _
  rw [value]; rfl

end

/-- Settles O21. -/
theorem readingsAreHeardStoredOrSetAside : Obligations.ReadingsAreHeardStoredOrSetAside := by
  refine ⟨fun s i x => s.heard_eq i x, fun s i x contiguous => ?_, fun s i distance old => ?_, fun s i fill sound => ?_,
    fun s i trigger => ?_, fun s i => ⟨s.applied_eq i, fun normal => State.restore_of_normal normal, fun suspect => State.restore_of_suspect suspect⟩⟩
  · intro r c d fails marked
    refine ⟨fun h upright policy => ?_, fun h upright policy => ?_, fun tilted => ?_, fun h upright => ?_⟩
    · exact State.workAccepted_of_untilted_drop ((rangeFails_iff ..).2 h) upright policy
    · exact State.workAccepted_of_untilted_mark ((rangeFails_iff ..).2 h) upright policy
    · exact State.workAccepted_of_tilted tilted
    · exact State.workAccepted_of_usable (Bool.eq_false_iff.2 fun bad => h ((rangeFails_iff ..).1 bad)) upright
  · intro r c fill collects rises
    have collecting : collects ↔ (r.visitMark = true ∨ fallCollects c r.ring fill = true) := by rw [fallCollects_iff]
    refine ⟨fun h => if_pos (collecting.1 h), fun no h => ?_, fun no h => ?_⟩
    · exact (if_neg fun h => no (collecting.2 h)).trans (if_pos ((riseRejected_iff ..).2 h))
    · exact (if_neg fun h => no (collecting.2 h)).trans (if_neg fun up => h ((riseRejected_iff ..).1 up))
  · intro r t
    obtain ⟨left, self⟩ := State.collect_left sound i fill
    refine ⟨self, left.behind, ?_⟩
    have visits : t.visits = visitsAfterLeave s i := left.visits
    rw [← visits]
    exact s.collect_onlyList i fill
  · intro r c wanted settled suspect cause
    refine ⟨State.unusableReading_of_unwanted, fun w on none_ normal => ?_, fun w on none_ declared => ?_, fun w on some_ stands => ?_,
      fun w on some_ fresh full => ?_, fun w on some_ fresh room arrival last => ?_⟩
    all_goals rw [State.unusableReading_of_wanted w on]
    · rw [if_pos none_, State.declareSuspect_of_normal normal]
      cases trigger <;> rfl
    · rw [if_pos none_, State.declareSuspect_of_suspect declared]
    all_goals
      rw [if_neg (Nat.pos_iff_ne_zero.1 some_)]
      rcases s.requestReMeasure_cases i with ⟨⟨e, mem, slot⟩, merges⟩ | ⟨absent, full', drops⟩ | ⟨absent, room', joins⟩
    · exact merges
    · obtain ⟨e, mem, slot⟩ := stands
      exact absurd slot (absent e mem)
    · obtain ⟨e, mem, slot⟩ := stands
      exact absurd slot (absent e mem)
    · exact absurd slot (fresh e mem)
    · exact drops
    · exact absurd room' (Nat.not_lt.2 full)
    · exact absurd slot (fresh e mem)
    · exact absurd room (Nat.not_lt.2 full')
    · refine ⟨(s.newEntry i).state, State.newEntry_due_iff last, ?_⟩
      rw [joins, State.newEntry_eq last]
      rfl

end Sys2Proof.Machine

/-! PROOF. The Pattern Filters: chains, the positions that they select, and the first that matches (O27). -/

namespace Sys2Proof.Machine

/-! ### Chains (R22) -/

theorem Classifier.filter_val (c : Classifier) (k : Index16) : c.filter k.val = c.filters[k] := by
  simp [Classifier.filter]

/-- The members of a chain: the filters that follow on while cascade-to-next is ON, none beyond the table. -/
theorem Classifier.chainFrom_getElem? (c : Classifier) {fuel f : Nat} (enough : 16 ≤ fuel + f) (j : Nat) (m : Filter) :
    (c.chainFrom fuel f)[j]? = some m ↔
      f + j < 16 ∧ m = c.filter (f + j) ∧ ∀ k, f ≤ k → k < f + j → (c.filter k).cascade = true := by
  induction fuel generalizing f j with
  | zero => exact ⟨(absurd · (by simp [Classifier.chainFrom])), fun h => absurd h.1 (by omega)⟩
  | succ fuel ih =>
    unfold Classifier.chainFrom
    by_cases beyond : 16 ≤ f
    · rw [if_pos beyond]
      exact ⟨(absurd · (by simp)), fun h => absurd h.1 (by omega)⟩
    rw [if_neg beyond]
    cases j with
    | zero =>
      have first : (if (c.filter f).cascade then c.filter f :: c.chainFrom fuel (f + 1) else [c.filter f])[0]? = some (c.filter f) := by
        split <;> rfl
      rw [first, Option.some.injEq]
      exact ⟨fun e => ⟨by omega, e.symm, fun k low high => absurd low (by omega)⟩, fun h => h.2.1.symm⟩
    | succ j =>
      cases cascade : (c.filter f).cascade with
      | false =>
        rw [if_neg (by decide)]
        exact ⟨(absurd · (by simp)), fun h => absurd (h.2.2 f le_rfl (by omega)) (by rw [cascade]; decide)⟩
      | true =>
        rw [if_pos rfl, List.getElem?_cons_succ, ih (by omega), Nat.add_right_comm f 1 j, Nat.add_assoc]
        refine and_congr_right fun _ => and_congr_right fun _ => ⟨fun h k low high => ?_, fun h k low high => h k (by omega) high⟩
        rcases Nat.eq_or_lt_of_le low with rfl | after
        · exact cascade
        · exact h k after high

theorem Classifier.chain_getElem? (c : Classifier) (h : Index16) (j : Nat) (m : Filter) : (c.chain h.val)[j]? = some m ↔
    (∃ k : Index16, k.val = h.val + j ∧ m = c.filters[k]) ∧
      ∀ k : Index16, h.val ≤ k.val → k.val < h.val + j → (c.filters[k]).cascade = true := by
  rw [Classifier.chain, c.chainFrom_getElem? (by omega)]
  constructor
  · rintro ⟨inside, rfl, cascades⟩
    exact ⟨⟨⟨h.val + j, inside⟩, rfl, c.filter_val ⟨h.val + j, inside⟩⟩, fun k low high => by rw [← c.filter_val]; exact cascades k low high⟩
  · rintro ⟨⟨k, place, rfl⟩, cascades⟩
    refine ⟨place ▸ k.isLt, by rw [← place, c.filter_val], fun n low high => ?_⟩
    have := cascades ⟨n, by omega⟩ low high
    rwa [← c.filter_val] at this

/-- A chain begins with its head. -/
theorem Classifier.chain_eq_cons (c : Classifier) (h : Index16) : ∃ rest, c.chain h.val = c.filters[h] :: rest := by
  have first := (c.chain_getElem? h 0 c.filters[h]).2 ⟨⟨h, rfl, rfl⟩, fun k low high => absurd low (by omega)⟩
  cases chain : c.chain h.val with
  | nil => rw [chain] at first; cases first
  | cons m rest => rw [chain] at first; exact ⟨rest, by rw [Option.some.inj first]⟩

/-! ### The positions selected (R23) -/

theorem mem_maskPositions {mask : Word16} {base p : Nat} : p ∈ maskPositions mask base ↔ ∃ i < 16, mask.getLsbD i = true ∧ p = base + i := by
  simp only [maskPositions, List.mem_map, List.mem_filter, List.mem_range]
  exact ⟨fun ⟨i, ⟨lt, bit⟩, e⟩ => ⟨i, lt, bit, e.symm⟩, fun ⟨i, lt, bit, e⟩ => ⟨i, ⟨lt, bit⟩, e.symm⟩⟩

theorem maskPositions_pairwise (mask : Word16) (base : Nat) : (maskPositions mask base).Pairwise (· < ·) :=
  (List.pairwise_lt_range.filter _).map _ fun _ _ lt => Nat.add_lt_add_left lt base

theorem mem_chainPositions {members : List Filter} {base p : Nat} : p ∈ chainPositions members base ↔
    ∃ (j i : Nat) (m : Filter), members[j]? = some m ∧ i < 16 ∧ m.mask.getLsbD i = true ∧ p = base + 16 * j + i := by
  induction members generalizing base with
  | nil => simp [chainPositions]
  | cons x rest ih =>
    rw [chainPositions, List.mem_append, mem_maskPositions, ih]
    constructor
    · rintro (⟨i, lt, bit, rfl⟩ | ⟨j, i, m, at_j, lt, bit, rfl⟩)
      · exact ⟨0, i, x, rfl, lt, bit, rfl⟩
      · exact ⟨j + 1, i, m, at_j, lt, bit, by omega⟩
    · rintro ⟨j, i, m, at_j, lt, bit, rfl⟩
      cases j with
      | zero => exact .inl ⟨i, lt, by cases at_j; exact bit, rfl⟩
      | succ j => exact .inr ⟨j, i, m, at_j, lt, bit, by omega⟩

theorem chainPositions_pairwise (members : List Filter) (base : Nat) : (chainPositions members base).Pairwise (· < ·) := by
  induction members generalizing base with
  | nil => exact .nil
  | cons x rest ih =>
    refine List.pairwise_append.2 ⟨maskPositions_pairwise x.mask base, ih _, fun p hp q hq => ?_⟩
    obtain ⟨i, lt, -, rfl⟩ := mem_maskPositions.1 hp
    obtain ⟨j, k, m, -, -, -, rfl⟩ := mem_chainPositions.1 hq
    omega

/-! ### Matching (R24, R25) -/

theorem Classifier.isHead_iff (c : Classifier) (f : Nat) : c.isHead f = true ↔ f = 0 ∨ (c.filter (f - 1)).cascade = false := by
  simp [Classifier.isHead]

theorem lastByteMatches_iff (head : Filter) (selected : List Byte) :
    lastByteMatches head selected = true ↔ head.lastCheck = false ∨ selected.getLast? = some head.lastValue := by
  simp [lastByteMatches]

theorem Classifier.chainMatches_iff (c : Classifier) (h : Index16) (frame : List Byte) :
    chainMatches (c.chain h.val) frame = true ↔
      (c.filters[h]).enable = true ∧ (∀ p ∈ chainPositions (c.chain h.val) (c.filters[h]).offset, p + 2 < frame.length) ∧
        crc ((chainPositions (c.chain h.val) (c.filters[h]).offset).map fun p => frame.getD p 0) = (c.filters[h]).signature ∧
        ((c.filters[h]).lastCheck = false ∨
          ((chainPositions (c.chain h.val) (c.filters[h]).offset).map fun p => frame.getD p 0).getLast? = some (c.filters[h]).lastValue) := by
  obtain ⟨rest, chain⟩ := c.chain_eq_cons h
  rw [chain]
  simp only [chainMatches, Bool.and_eq_true, List.all_eq_true, decide_eq_true_eq, beq_iff_eq, lastByteMatches_iff, and_assoc]

/-- Settles O27. -/
theorem firstMatchingChainWins : Obligations.FirstMatchingChainWins := by
  refine ⟨fun c frame h => ?_, fun c h j m => c.chain_getElem? h j m, fun members base => ⟨chainPositions_pairwise members base, fun p => mem_chainPositions⟩⟩
  intro matches_
  have agrees (k : Index16) : (c.isHead k.val && chainMatches (c.chain k.val) frame) = true ↔ matches_ k := by
    rw [Bool.and_eq_true, c.isHead_iff, c.chainMatches_iff]
  rw [Classifier.matchingFilter, ← Fin.find?_eq_find?_finRange, Fin.find?_eq_some_iff, Fin.find?_eq_none_iff, agrees]
  exact ⟨and_congr_right fun _ => forall₂_congr fun k _ => by rw [← agrees k, Bool.not_eq_true],
    forall_congr' fun k => by rw [← agrees k, Bool.not_eq_true]⟩

end Sys2Proof.Machine

/-! PROOF. The take: frames forwarded, dropped or reported, and the Sample decoded (O28). -/

namespace Sys2Proof.Machine

open Sys2Proof.Safety

/-! ### What becomes of the frame (R20 to R31) -/

theorem State.lengthFailure_of_dropped {s : State} {l : Lane} {f : LaneFrame} (policy : s.mgmt.params.lengthPolicy = .drop) :
    s.lengthFailure l f false = s.modCounters fun c => { c with lengthFailures := inc32 c.lengthFailures } :=
  if_neg fun forwarded => forwarded.elim (by decide) fun marked => by
    have marked : s.mgmt.params.lengthPolicy = .forwardMarked := marked
    rw [policy] at marked; cases marked

theorem State.lengthFailure_of_forwarded {s : State} {l : Lane} {f : LaneFrame} {andForward : Bool}
    (forwarded : andForward = true ∨ s.mgmt.params.lengthPolicy = .forwardMarked) : s.lengthFailure l f andForward =
      (s.modCounters fun c => { c with lengthFailures := inc32 c.lengthFailures }).forwardJoin (recordOf l f .length) := if_pos forwarded

section
variable {s : State} {l : Lane} {f : LaneFrame} {h : Index16}

/-- A matched frame under an action that reports. -/
theorem execTake_of_binReport (takes : Takes s l f) (running : s.mgmt.running = true) (matched : s.classifier.matchingFilter f.bytes = some h)
    (action : (s.classifier.filters[h]).action = .binReport) :
    execTake s = .next ((takenAt s l h).binReport l f h s.classifier.layouts[(s.classifier.filters[h]).layout] false) := by
  rw [execTake_of_takes takes, State.classify_matched running matched, action]

theorem execTake_of_binReportAndForward (takes : Takes s l f) (running : s.mgmt.running = true)
    (matched : s.classifier.matchingFilter f.bytes = some h) (action : (s.classifier.filters[h]).action = .binReportAndForward) :
    execTake s = .next ((takenAt s l h).binReport l f h s.classifier.layouts[(s.classifier.filters[h]).layout] true) := by
  rw [execTake_of_takes takes, State.classify_matched running matched, action]

theorem Layout.decodes_eq_false_iff (y : Layout) (bytes : List Byte) : y.decodes bytes = false ↔
    bytes.length < y.minLength ∨ y.identifierOf bytes = 0 ∨ y.identifierOf bytes = 0xFFFFFFFF := by
  rw [← Bool.not_eq_true, y.decodes_iff, not_and_or, not_and_or, Nat.not_le, not_not, not_not]

end

/-! ### The Sample decoded (R32 to R34) -/

/-- A 2-byte number in the order of its field. -/
def orderedTwo (order : ByteOrder) (bytes : List Byte) (p : Nat) : Nat :=
  match order with
  | .big => 256 * read8 bytes p + read8 bytes (p + 1)
  | .little => read8 bytes p + 256 * read8 bytes (p + 1)

/-- A 4-byte number in the order of its field. -/
def orderedFour (order : ByteOrder) (bytes : List Byte) (p : Nat) : Nat :=
  match order with
  | .big => 65536 * orderedTwo .big bytes p + orderedTwo .big bytes (p + 2)
  | .little => orderedTwo .little bytes p + 65536 * orderedTwo .little bytes (p + 2)

theorem read16_orderedBytes (order : ByteOrder) (bytes : List Byte) (p : Nat) :
    read16 (orderedBytes order bytes p 2) 0 = orderedTwo order bytes p := by
  cases order with
  | big => rfl
  | little => exact Nat.add_comm _ _

theorem read32_orderedBytes (order : ByteOrder) (bytes : List Byte) (p : Nat) :
    read32 (orderedBytes order bytes p 4) 0 = orderedFour order bytes p := by
  cases order with
  | big => rfl
  | little =>
    change 65536 * (256 * read8 bytes (p + 3) + read8 bytes (p + 2)) + (256 * read8 bytes (p + 1) + read8 bytes p) =
      read8 bytes p + 256 * read8 bytes (p + 1) + 65536 * (read8 bytes (p + 2) + 256 * read8 bytes (p + 3))
    omega

theorem orderedTwo_lt (order : ByteOrder) (bytes : List Byte) (p : Nat) : orderedTwo order bytes p < 65536 := by
  have low := read8_lt bytes p
  have high := read8_lt bytes (p + 1)
  cases order <;> simp only [orderedTwo] <;> omega

theorem orderedFour_lt (order : ByteOrder) (bytes : List Byte) (p : Nat) : orderedFour order bytes p < 4294967296 := by
  cases order with
  | big =>
    have := orderedTwo_lt .big bytes p
    have := orderedTwo_lt .big bytes (p + 2)
    simp only [orderedFour]; omega
  | little =>
    have := orderedTwo_lt .little bytes p
    have := orderedTwo_lt .little bytes (p + 2)
    simp only [orderedFour]; omega

theorem Layout.identifierOf_toNat (y : Layout) (bytes : List Byte) : (y.identifierOf bytes).toNat = orderedFour y.idOrder bytes y.idOffset := by
  rw [Layout.identifierOf, read32_orderedBytes, BitVec.toNat_ofNat, Nat.mod_eq_of_lt (orderedFour_lt ..)]

theorem Layout.sequenceOf_toNat (y : Layout) (bytes : List Byte) : (y.sequenceOf bytes).toNat = orderedTwo y.seqOrder bytes y.seqOffset := by
  rw [Layout.sequenceOf, read16_orderedBytes, BitVec.toNat_ofNat, Nat.mod_eq_of_lt (orderedTwo_lt ..)]

theorem readInt8_eq (bytes : List Byte) (p : Nat) :
    readInt8 bytes p = if read8 bytes p < 128 then (read8 bytes p : Int) else (read8 bytes p : Int) - 256 := by
  have small := read8_lt bytes p
  rw [readInt8, BitVec.toInt_eq_toNat_cond, BitVec.toNat_ofNat, Nat.mod_eq_of_lt small]
  split <;> split <;> omega

theorem Layout.flagOf_eq (y : Layout) (bytes : List Byte) (position : Option Nat) : y.flagOf bytes position =
    match y.flags, position with
    | some p, some b => some (decide (read8 bytes p / 2 ^ b % 2 = 1))
    | _, _ => none := by
  unfold Layout.flagOf
  cases y.flags with
  | none => rfl
  | some p =>
    cases position with
    | none => rfl
    | some b => exact congrArg some (Nat.testBit_eq_decide_div_mod_eq ..)

/-- Settles O28. -/
theorem takeForwardsDropsOrReports : Obligations.TakeForwardsDropsOrReports := by
  refine ⟨fun s l f takes => ⟨fun standby => ?_, fun running unmatched => ?_, fun h running matched => ⟨fun action => ?_, fun action => ?_⟩⟩,
    fun s l f h takes running matched => ?_, fun s l f h takes running matched => ?_, fun y l f h => ?_⟩
  · exact (execTake_of_takes takes).trans (congrArg Host.Outcome.next (State.classify_standby standby))
  · exact (execTake_of_takes takes).trans (congrArg Host.Outcome.next (State.classify_unmatched running unmatched))
  · exact (execTake_of_takes takes).trans (congrArg Host.Outcome.next ((State.classify_matched running matched).trans (by rw [action])))
  · exact (execTake_of_takes takes).trans (congrArg Host.Outcome.next ((State.classify_matched running matched).trans (by rw [action])))
  · intro y fails counted
    have fails : y.decodes f.bytes = false := (y.decodes_eq_false_iff _).2 fails
    refine ⟨fun action policy => ?_, fun action policy => ?_, fun action => ?_⟩
    · refine (execTake_of_binReport takes running matched action).trans (congrArg Host.Outcome.next ?_)
      exact (State.binReport_of_not_decodes fails).trans (State.lengthFailure_of_dropped policy)
    · refine (execTake_of_binReport takes running matched action).trans (congrArg Host.Outcome.next ?_)
      exact (State.binReport_of_not_decodes fails).trans (State.lengthFailure_of_forwarded (.inr policy))
    · refine (execTake_of_binReportAndForward takes running matched action).trans (congrArg Host.Outcome.next ?_)
      exact (State.binReport_of_not_decodes fails).trans (State.lengthFailure_of_forwarded (.inl rfl))
  · intro y long nonzero ones
    have decodes : y.decodes f.bytes = true := (y.decodes_iff _).2 ⟨long, nonzero, ones⟩
    exact ⟨fun action => (execTake_of_binReport takes running matched action).trans
        (congrArg Host.Outcome.next (State.binReport_of_decodes decodes)),
      fun action => (execTake_of_binReportAndForward takes running matched action).trans
        (congrArg Host.Outcome.next (State.binReport_of_decodes decodes))⟩
  · intro byte two four flag x
    refine ⟨?_, ?_, read16_orderedBytes .., rfl, ?_, y.flagOf_eq f.bytes y.lid, y.flagOf_eq f.bytes y.tilt, y.flagOf_eq f.bytes y.restart,
      y.flagOf_eq f.bytes y.shatter, rfl, rfl, rfl, rfl⟩
    · refine (y.identifierOf_toNat f.bytes).trans ?_
      cases y.idOrder <;> rfl
    · exact y.sequenceOf_toNat f.bytes
    · exact congrArg (y.temperature.map ·) (funext (readInt8_eq f.bytes))

end Sys2Proof.Machine

/-! PROOF. A Sample at the Copy Merger and at the Bin Processor: merged, listed, ended or accepted (O29 to O32). -/

namespace Sys2Proof.Machine

open Sys2Proof.Safety

/-! ### What a reported Sample carries -/

section
variable {s : State} {l : Lane} {f : LaneFrame} {h : Index16} {x : Sample}

theorem filter_of_reports (reports : Reports s l f h x) : x.filter = h := by
  obtain ⟨-, -, -, -, -, rfl⟩ := reports; rfl

theorem lane_of_reports (reports : Reports s l f h x) : x.lane = l := by
  obtain ⟨-, -, -, -, -, rfl⟩ := reports; rfl

theorem rssi_of_reports (reports : Reports s l f h x) : x.rssi = f.rssi := by
  obtain ⟨-, -, -, -, -, rfl⟩ := reports; rfl

theorem arrival_of_reports (reports : Reports s l f h x) : x.arrival = f.arrival := by
  obtain ⟨-, -, -, -, -, rfl⟩ := reports; rfl

theorem reported_record (s : State) (l : Lane) (f : LaneFrame) (h : Index16) (i : Slot) : (reported s l f h).record i = s.record i := by
  rw [State.record, State.record, reported_bins]

theorem reported_lookup (s : State) (l : Lane) (f : LaneFrame) (h : Index16) (id : Word32) : (reported s l f h).lookup id = s.lookup id :=
  State.lookup_congr (by rw [reported_bins]) id

theorem firstCopy_bins (s : State) (l : Lane) (f : LaneFrame) (h : Index16) (x : Sample) : (firstCopy s l f h x).bins = s.bins :=
  reported_bins s l f h

theorem firstCopy_mgmt (s : State) (l : Lane) (f : LaneFrame) (h : Index16) (x : Sample) : (firstCopy s l f h x).mgmt = s.mgmt :=
  reported_mgmt s l f h

theorem firstCopy_record (s : State) (l : Lane) (f : LaneFrame) (h : Index16) (x : Sample) (i : Slot) :
    (firstCopy s l f h x).record i = s.record i := reported_record s l f h i

theorem firstCopy_lookup (s : State) (l : Lane) (f : LaneFrame) (h : Index16) (x : Sample) (id : Word32) :
    (firstCopy s l f h x).lookup id = s.lookup id := reported_lookup s l f h id

end

/-- A lane as one bit of four. -/
theorem lane_bit (l : Lane) : BitVec.ofNat 4 (2 ^ l.val) = 1#4 <<< l.val := by revert l; decide

/-! ### A later copy (R41, R42) -/

theorem State.mergeNote_of_unknown {s : State} {x : Sample} (unknown : s.lookup x.identifier = none) : s.mergeNote x = s := by
  rw [State.mergeNote, unknown]

theorem State.mergeNote_of_known {s : State} {x : Sample} {i : Slot} (known : s.lookup x.identifier = some i) :
    s.mergeNote x = s.setRecord i ((s.record i).noted x) := by
  rw [State.mergeNote, known]; rfl

theorem BinRecord.noted_of_agrees {r : BinRecord} {x : Sample} {best : Int} (active : r.admin = .active)
    (agrees : r.lastSequence = some x.sequence) (heard : r.bestRssi = some best) : r.noted x =
      { r with
        counters := { r.counters with merged := inc16 r.counters.merged }
        lanesHeard := r.lanesHeard ||| (1#4 <<< x.lane.val), bestRssi := some (if best < x.rssi then x.rssi else best) } := by
  refine (if_pos ⟨active, agrees⟩).trans ?_
  have higher : max best x.rssi = if best < x.rssi then x.rssi else best := by split <;> omega
  rw [heard, lane_bit]
  dsimp only
  rw [higher]

theorem BinRecord.noted_of_differs {r : BinRecord} {x : Sample} (differs : r.admin ≠ .active ∨ r.lastSequence ≠ some x.sequence) :
    r.noted x = { r with counters := { r.counters with merged := inc16 r.counters.merged } } :=
  if_neg fun ⟨active, agrees⟩ => differs.elim (absurd active) (absurd agrees)

/-- Settles O29. -/
theorem laterCopyIsMerged : Obligations.LaterCopyIsMerged := by
  intro s l f h x reports later merged
  have take : exec .take s = .next (merged.mergeNote x) :=
    (execTake_of_reports reports).trans (congrArg Host.Outcome.next (State.mergeSample_later (by rw [reported_copies]; exact later)))
  have lookup : merged.lookup x.identifier = s.lookup x.identifier := reported_lookup s l f h _
  refine ⟨fun unknown => ?_, fun i best known => ⟨fun active agrees heard => ?_, fun differs => ?_⟩⟩
  · exact take.trans (congrArg Host.Outcome.next (State.mergeNote_of_unknown (lookup.trans unknown)))
  all_goals
    have record : merged.record i = s.record i := reported_record s l f h i
    refine take.trans (congrArg Host.Outcome.next ((State.mergeNote_of_known (lookup.trans known)).trans (congrArg (merged.setRecord i) ?_)))
    rw [record]
  · exact BinRecord.noted_of_agrees active agrees heard
  · exact BinRecord.noted_of_differs differs

/-! ### The Discovery List (R60, R61) -/

theorem State.discover_of_listed {s : State} {x : Sample} (listed : ∃ e ∈ s.bins.discovery, e.identifier = x.identifier) : s.discover x =
    { s.modCounters fun c => { c with unknowns := inc32 c.unknowns } with
      bins := { s.bins with discovery := s.bins.discovery.map fun e =>
        if e.identifier = x.identifier then e.sighted s.mgmt.secs x.filter else e } } := by
  obtain ⟨e, mem, same⟩ := listed
  exact if_pos (List.any_eq_true.2 ⟨e, mem, by rw [same]; exact beq_self_eq_true _⟩)

theorem discovery_any_eq_false {q : List DiscoveryEntry} {id : Word32} (absent : ∀ e ∈ q, e.identifier ≠ id) :
    ¬q.any (fun e => e.identifier == id) = true := fun some => by
  obtain ⟨e, mem, same⟩ := List.any_eq_true.1 some
  exact absent e mem (eq_of_beq same)

theorem State.discover_of_room {s : State} {x : Sample} (absent : ∀ e ∈ s.bins.discovery, e.identifier ≠ x.identifier)
    (room : s.bins.discovery.length < Config.discoverySize) : s.discover x =
      ({ s.modCounters fun c => { c with unknowns := inc32 c.unknowns } with
        bins := { s.bins with discovery := s.bins.discovery ++
          [{ identifier := x.identifier, firstHeard := s.mgmt.secs, lastHeard := s.mgmt.secs, count := 1, filter := x.filter }] } } :
        State).notify
        { time := s.mgmt.secs, slot := none, identifier := some x.identifier, body := .discovered x.filter x.lane x.rssi } :=
  (if_neg (discovery_any_eq_false absent)).trans (if_pos room)

theorem State.discover_of_full {s : State} {x : Sample} (absent : ∀ e ∈ s.bins.discovery, e.identifier ≠ x.identifier)
    (full : Config.discoverySize ≤ s.bins.discovery.length) : s.discover x =
      (s.modCounters fun c => { c with unknowns := inc32 c.unknowns }).modCounters fun c =>
        { c with discoveryOverflows := inc32 c.discoveryOverflows } :=
  (if_neg (discovery_any_eq_false absent)).trans (if_neg (Nat.not_lt.2 full))

/-- Settles O30. -/
theorem unknownIdentifierGoesToTheDiscoveryList : Obligations.UnknownIdentifierGoesToTheDiscoveryList := by
  intro s l f h x first unknown counted
  have take : exec .take s = .next ((firstCopy s l f h x).discover x) :=
    (execTake_of_reportsFirst first).trans (congrArg Host.Outcome.next (State.workSample_none ((firstCopy_lookup ..).trans unknown)))
  have bins := firstCopy_bins s l f h x
  have mgmt := firstCopy_mgmt s l f h x
  have filter := filter_of_reports first.1
  refine ⟨fun listed => ?_, fun absent room => ?_, fun absent full => ?_⟩
  all_goals refine take.trans (congrArg Host.Outcome.next ?_)
  · rw [State.discover_of_listed (by rw [bins]; exact listed), bins, mgmt, filter]
    rfl
  · rw [State.discover_of_room (by rw [bins]; exact absent) (by rw [bins]; exact room), bins, mgmt, filter, lane_of_reports first.1,
      rssi_of_reports first.1]
    rfl
  · exact State.discover_of_full (by rw [bins]; exact absent) (by rw [bins]; exact full)

/-! ### Identity (R63 to R65) -/

/-- A Sample counted as received at its record (R63). -/
def BinRecord.received (r : BinRecord) : BinRecord := { r with counters := { r.counters with received := inc16 r.counters.received } }

section
variable {s : State} {i : Slot} {x : Sample}

theorem State.workSlot_of_suspended (suspended : (s.record i).admin = .suspended) : s.workSlot i x = s.setRecord i (s.record i).received := by
  refine if_neg ?_
  rw [State.modBinCounters, State.record_modRecord_self, suspended]
  decide

theorem State.workSlot_of_profile (active : (s.record i).admin = .active) (profile : x.filter = (s.record i).profileFilter) :
    s.workSlot i x = ((s.setRecord i (s.record i).received).profileMatch i x).workSequence i x := by
  have here : (s.setRecord i (s.record i).received).record i = (s.record i).received := State.record_setRecord_self ..
  exact (if_pos ((congrArg BinRecord.admin here).trans active)).trans (if_pos (profile.trans (congrArg BinRecord.profileFilter here).symm))

theorem State.workSlot_of_other (active : (s.record i).admin = .active) (other : x.filter ≠ (s.record i).profileFilter) :
    s.workSlot i x = (s.setRecord i (s.record i).received).profileMismatch i x := by
  have here : (s.setRecord i (s.record i).received).record i = (s.record i).received := State.record_setRecord_self ..
  have filter : ((s.setRecord i (s.record i).received).record i).profileFilter = (s.record i).profileFilter := by rw [here]; rfl
  exact (if_pos ((congrArg BinRecord.admin here).trans active)).trans (if_neg fun same => other (same.trans filter))

end

/-- The record of a Sample through another filter (R64). -/
def BinRecord.mismatching (r : BinRecord) : BinRecord :=
  { r with
    mismatchRun := min 3 (r.mismatchRun + 1), matchRun := 0, identity := if min 3 (r.mismatchRun + 1) = 3 then .mismatched else r.identity
    counters := { r.counters with mismatches := inc16 r.counters.mismatches } }

theorem State.profileMismatch_eq (s : State) (i : Slot) (x : Sample) : s.profileMismatch i x =
    if (s.record i).identity = .matched ∧ min 3 ((s.record i).mismatchRun + 1) = 3 then
      ((s.setRecord i (s.record i).mismatching).modCounters fun c => { c with mismatches := inc32 c.mismatches }).notifySlot i
        (.identity .matched .mismatched x.filter (s.record i).profileFilter)
    else (s.setRecord i (s.record i).mismatching).modCounters fun c => { c with mismatches := inc32 c.mismatches } := by
  have identity : (if (s.record i).identity = .matched ∧ min 3 ((s.record i).mismatchRun + 1) = 3 then .mismatched else (s.record i).identity) =
      (s.record i).mismatching.identity := by
    simp only [BinRecord.mismatching]
    cases (s.record i).identity <;> simp
  have written : (s.modRecord i fun r => { r with
      mismatchRun := min 3 ((s.record i).mismatchRun + 1), matchRun := 0
      identity := if (s.record i).identity = .matched ∧ min 3 ((s.record i).mismatchRun + 1) = 3 then .mismatched else r.identity
      counters := { r.counters with mismatches := inc16 r.counters.mismatches } }) = s.setRecord i (s.record i).mismatching := by
    rw [State.modRecord, identity]; rfl
  rw [← written]
  rfl

/-- The record of a Sample through its profile filter (R65). -/
def BinRecord.matching (r : BinRecord) : BinRecord :=
  { r with
    mismatchRun := 0
    matchRun := if r.identity = .matched then r.matchRun else if min 3 (r.matchRun + 1) = 3 then 0 else min 3 (r.matchRun + 1)
    identity := if min 3 (r.matchRun + 1) = 3 then .matched else r.identity }

theorem State.profileMatch_of_matched {s : State} {i : Slot} (matched : (s.record i).identity = .matched) (x : Sample) :
    s.profileMatch i x = s.setRecord i { s.record i with mismatchRun := 0 } := if_pos matched

theorem State.profileMatch_of_returns {s : State} {i : Slot} (mismatched : (s.record i).identity = .mismatched)
    (third : min 3 ((s.record i).matchRun + 1) = 3) (x : Sample) : s.profileMatch i x =
      (s.setRecord i { s.record i with mismatchRun := 0, matchRun := 0, identity := .matched }).notify
        { time := s.mgmt.secs, slot := some i, identifier := some (s.record i).identifier
          body := .identity .mismatched .matched x.filter (s.record i).profileFilter } := by
  refine (if_neg (by rw [mismatched]; decide)).trans ((if_pos third).trans ?_)
  rw [State.notifySlot, State.record_modRecord_self]
  rfl

theorem State.profileMatch_of_counts {s : State} {i : Slot} (mismatched : (s.record i).identity = .mismatched)
    (early : min 3 ((s.record i).matchRun + 1) ≠ 3) (x : Sample) : s.profileMatch i x =
      s.setRecord i { s.record i with mismatchRun := 0, matchRun := min 3 ((s.record i).matchRun + 1) } :=
  (if_neg (by rw [mismatched]; decide)).trans (if_neg early)

theorem State.profileMatch_eq (s : State) (i : Slot) (x : Sample) : s.profileMatch i x =
    if (s.record i).identity = .mismatched ∧ min 3 ((s.record i).matchRun + 1) = 3 then
      (s.setRecord i (s.record i).matching).notify
        { time := s.mgmt.secs, slot := some i, identifier := some (s.record i).identifier
          body := .identity .mismatched .matched x.filter (s.record i).profileFilter }
    else s.setRecord i (s.record i).matching := by
  cases identity : (s.record i).identity with
  | matched =>
    rw [State.profileMatch_of_matched identity, if_neg (by simp)]
    simp [BinRecord.matching, identity]
  | mismatched =>
    by_cases third : min 3 ((s.record i).matchRun + 1) = 3
    · rw [State.profileMatch_of_returns identity third, if_pos ⟨rfl, third⟩]
      simp only [BinRecord.matching, identity, third]
      rfl
    · rw [State.profileMatch_of_counts identity third, if_neg fun h => third h.2]
      simp only [BinRecord.matching, identity, third]
      rfl

/-! ### The sequence check (R66 to R68) -/

/-- A counter that a notice does not move can be moved before it. -/
theorem State.modCounters_notify (s : State) (n : Notice) (f : Counters → Counters)
    (joins : ∀ c : Counters, f { c with notices := inc32 c.notices } = { f c with notices := inc32 (f c).notices })
    (lost : ∀ c : Counters, f { c with lostNotices := inc32 c.lostNotices } = { f c with lostNotices := inc32 (f c).lostNotices }) :
    (s.notify n).modCounters f = (s.modCounters f).notify n := by
  by_cases room : s.notices.queue.length < Config.noticeQueueSize
  · simp only [State.notify, room, if_true, State.modCounters, joins]
  · simp only [State.notify, room, if_false, State.modCounters, lost]

theorem State.modBinCounters_notify (s : State) (i : Slot) (n : Notice) (g : BinCounters → BinCounters) :
    (s.notify n).modBinCounters i g = (s.modBinCounters i g).notify n := by
  rw [State.modBinCounters, State.modRecord, State.record_notify, ← State.setRecord_notify]; rfl

section
variable {s : State} {i : Slot} {x : Sample}

theorem State.workSequence_of_repeat (last : (s.record i).lastSequence = some x.sequence) : s.workSequence i x =
    (s.modBinCounters i fun c => { c with repeats := inc16 c.repeats }).modCounters fun c => { c with repeats := inc32 c.repeats } := by
  have verdict : sequenceCheck (some x.sequence) x = .repeated := by rw [sequenceCheck_some, if_pos (by simp)]
  rw [State.workSequence, last, verdict]

theorem State.workSequence_of_stale {n : Word16} (last : (s.record i).lastSequence = some n) (back : 32768 ≤ (x.sequence - n).toNat)
    (noRestart : x.restart ≠ some true) : s.workSequence i x =
      (s.modBinCounters i fun c => { c with stale := inc16 c.stale }).modCounters fun c => { c with stale := inc32 c.stale } := by
  have verdict : sequenceCheck (some n) x = .stale := by
    rw [sequenceCheck_some, if_neg (by omega), if_neg (by omega), if_neg noRestart]
  rw [State.workSequence, last, verdict]

theorem State.workSequence_of_first (last : (s.record i).lastSequence = none) :
    s.workSequence i x = (s.accept i x 0).workAccepted i x false := by
  rw [State.workSequence, last]; rfl

theorem State.workSequence_of_forward {n : Word16} (last : (s.record i).lastSequence = some n) {skipped : Nat}
    (gap : (x.sequence - n).toNat = skipped + 1) (forward : skipped < 32767) :
    s.workSequence i x = (s.accept i x skipped).workAccepted i x (decide (skipped = 0)) := by
  have verdict : sequenceCheck (some n) x = .forward (skipped + 1) := by
    rw [sequenceCheck_some, gap, if_neg (by omega), if_pos (by omega)]
  have contiguous : decide (skipped + 1 = 1) = decide (skipped = 0) := by simp
  rw [State.workSequence, last, verdict, ← contiguous]; rfl

theorem State.workSequence_of_restart {n : Word16} (last : (s.record i).lastSequence = some n) (back : 32768 ≤ (x.sequence - n).toNat)
    (restarts : x.restart = some true) : s.workSequence i x = ((s.sensorRestart i n x).accept i x 0).workAccepted i x false := by
  have verdict : sequenceCheck (some n) x = .restart n := by
    rw [sequenceCheck_some, if_neg (by omega), if_neg (by omega), if_pos restarts]
  rw [State.workSequence, last, verdict]

/-- The record of an accepted Sample (R66, R68). -/
def BinRecord.accepted (r : BinRecord) (x : Sample) (skipped : Nat) : BinRecord :=
  { r with
    lastSequence := some x.sequence, lastArrival := some x.arrival, lanesHeard := 1#4 <<< x.lane.val, bestRssi := some x.rssi
    counters := { r.counters with
      applied := min 65535 (r.counters.applied + 1), missedByGap := min 65535 (r.counters.missedByGap + skipped) } }

theorem State.accept_eq (s : State) (i : Slot) (x : Sample) (skipped : Nat) :
    s.accept i x skipped = s.setRecord i ((s.record i).accepted x skipped) := by
  rw [State.accept, State.modRecord, lane_bit]; rfl

end

theorem SlotKept.lastSequence {i : Slot} {s t : State} (h : SlotKept i s t) : (t.record i).lastSequence = (s.record i).lastSequence :=
  (congrArg BinRecord.lastSequence h.here : (t.record i).kept.lastSequence = (s.record i).kept.lastSequence)

/-- A Sample that its record counts and does not apply, after the identity check: counted, with the notice of a return to MATCHED. -/
theorem State.profileMatch_ends {s : State} {i : Slot} {x : Sample} (g : BinCounters → BinCounters) (f : Counters → Counters)
    (joins : ∀ c : Counters, f { c with notices := inc32 c.notices } = { f c with notices := inc32 (f c).notices })
    (lost : ∀ c : Counters, f { c with lostNotices := inc32 c.lostNotices } = { f c with lostNotices := inc32 (f c).lostNotices }) :
    ((s.profileMatch i x).modBinCounters i g).modCounters f =
      let counted := (s.setRecord i { (s.record i).matching with counters := g (s.record i).counters }).modCounters f
      if (s.record i).identity = .mismatched ∧ min 3 ((s.record i).matchRun + 1) = 3 then
        counted.notifySlot i (.identity .mismatched .matched x.filter (s.record i).profileFilter)
      else counted := by
  have written : (s.setRecord i (s.record i).matching).modBinCounters i g =
      s.setRecord i { (s.record i).matching with counters := g (s.record i).counters } := by
    rw [State.modBinCounters, State.modRecord, State.record_setRecord_self, State.setRecord_setRecord]; rfl
  rw [State.profileMatch_eq]
  by_cases returns : (s.record i).identity = .mismatched ∧ min 3 ((s.record i).matchRun + 1) = 3
  · simp only [if_pos returns]
    rw [State.notifySlot, State.record_modCounters, State.record_setRecord_self, State.modBinCounters_notify,
      State.modCounters_notify _ _ f joins lost, written]
    rfl
  · simp only [if_neg returns]
    rw [written]

/-- Settles O31. -/
theorem sampleNotAppliedIsCountedAndEnds : Obligations.SampleNotAppliedIsCountedAndEnds := by
  intro s l f h x i first known base r k
  have take : exec .take s = .next (base.workSlot i x) :=
    (execTake_of_reportsFirst first).trans (congrArg Host.Outcome.next (State.workSample_some ((firstCopy_lookup ..).trans known)))
  have record : base.record i = r := firstCopy_record s l f h x i
  have mgmt : base.mgmt = s.mgmt := firstCopy_mgmt s l f h x
  have filter := filter_of_reports first.1
  refine ⟨fun suspended => ?_, fun active other => ?_, fun active profile last accepted => ?_⟩
  · refine take.trans (congrArg Host.Outcome.next ((State.workSlot_of_suspended (by rw [record]; exact suspended)).trans ?_))
    rw [record]; rfl
  · intro run counted
    refine take.trans (congrArg Host.Outcome.next ((State.workSlot_of_other (by rw [record]; exact active)
      (by rw [record, filter]; exact other)).trans ?_))
    rw [State.profileMismatch_eq, State.record_setRecord_self, State.setRecord_setRecord, record, filter]
    rfl
  · intro run returns judged noticed
    let u := base.setRecord i r.received
    have here : u.record i = r.received := State.record_setRecord_self ..
    have work : base.workSlot i x = (u.profileMatch i x).workSequence i x := by
      rw [State.workSlot_of_profile (by rw [record]; exact active) (by rw [record, filter]; exact profile), record]
    have held : ((u.profileMatch i x).record i).lastSequence = some last := by
      rw [(State.profileMatch_slotKept u i x).lastSequence, here]; exact accepted
    refine ⟨fun same => ?_, fun back noRestart => ?_⟩
    all_goals refine take.trans (congrArg Host.Outcome.next (work.trans ?_))
    · rw [State.workSequence_of_repeat (held.trans (by rw [same])), State.profileMatch_ends _ _ (fun _ => rfl) fun _ => rfl, here, filter,
        State.setRecord_setRecord]
      rfl
    · rw [State.workSequence_of_stale held back noRestart, State.profileMatch_ends _ _ (fun _ => rfl) fun _ => rfl, here, filter,
        State.setRecord_setRecord]
      rfl

end Sys2Proof.Machine

/-! PROOF. A Sample that is accepted (O32). -/

namespace Sys2Proof.Machine

open Sys2Proof.Safety

/-- How many sequence numbers an accepted Sample has skipped: none accepted before, a forward gap, or a sensor restart (R66). -/
inductive Accepts (last : Option Word16) (x : Sample) : Nat → Prop
  | first (h : last = none) : Accepts last x 0
  | forward (n : Word16) (skipped : Nat) (h : last = some n) (gap : (x.sequence - n).toNat = skipped + 1) (small : skipped < 32767) :
    Accepts last x skipped
  | restart (n : Word16) (h : last = some n) (back : 32768 ≤ (x.sequence - n).toNat) (flag : x.restart = some true) : Accepts last x 0

theorem State.sensorRestart_slotKept (s : State) (i : Slot) (n : Word16) (x : Sample) : SlotKept i s (s.sensorRestart i n x) :=
  (s.modCounters_slotKept i _).trans (State.notifySlot_slotKept _ i i _)

/-- An accepted Sample is worked from its acceptance update on, the record untouched before it. -/
theorem State.workSequence_of_accepts {s : State} {i : Slot} {x : Sample} {skipped : Nat}
    (accepts : Accepts (s.record i).lastSequence x skipped) :
    ∃ (t : State) (c : Bool), SlotKept i s t ∧ s.workSequence i x = (t.accept i x skipped).workAccepted i x c := by
  cases accepts with
  | first h => exact ⟨s, false, .refl i s, State.workSequence_of_first h⟩
  | forward n _ h gap small => exact ⟨s, _, .refl i s, State.workSequence_of_forward h gap small⟩
  | restart n h back flag => exact ⟨_, false, s.sensorRestart_slotKept i n x, State.workSequence_of_restart h back flag⟩

/-- The acceptance update survives the later stages, and of the other records only visit links move. -/
theorem State.workSequence_kept {s : State} {i : Slot} {x : Sample} {skipped : Nat} (accepts : Accepts (s.record i).lastSequence x skipped) :
    ((s.workSequence i x).record i).kept = ((s.record i).kept.accepted x skipped).kept ∧
      ∀ j ≠ i, (s.workSequence i x).record j = { s.record j with links := ((s.workSequence i x).record j).links } := by
  obtain ⟨t, c, before, work⟩ := State.workSequence_of_accepts accepts
  have after := (t.accept i x skipped).workAccepted_slotKept i x c
  rw [← work, State.accept_eq] at after
  refine ⟨?_, fun j ne => ?_⟩
  · have here := after.here
    rw [State.record_setRecord_self] at here
    have same : ((t.record i).accepted x skipped).kept = ((t.record i).kept.accepted x skipped).kept := rfl
    rw [here, same, before.here]
  · rw [after.others j ne, State.record_setRecord_ne _ _ ne.symm, before.others j ne]

/-- Settles O32. -/
theorem acceptedSampleUpdatesItsRecord : Obligations.AcceptedSampleUpdatesItsRecord := by
  refine ⟨fun s l f h x i first known active profile skipped gap => ?_, fun s i x => ⟨fun matched => ?_, fun mismatched early => ?_,
    fun mismatched third => ?_⟩, fun s i x => ⟨fun last => ?_, fun n last => ⟨fun skipped gap small => ?_, fun back flag => ?_⟩⟩⟩
  · intro received
    have take : exec .take s = .next ((firstCopy s l f h x).workSlot i x) :=
      (execTake_of_reportsFirst first).trans (congrArg Host.Outcome.next (State.workSample_some ((firstCopy_lookup ..).trans known)))
    have record : (firstCopy s l f h x).record i = s.record i := firstCopy_record s l f h x i
    have work : (firstCopy s l f h x).workSlot i x = (received.profileMatch i x).workSequence i x := by
      rw [State.workSlot_of_profile (by rw [record]; exact active) (by rw [record, profile]; exact filter_of_reports first.1), record]
      rfl
    have here : received.record i = (s.record i).received := State.record_setRecord_self ..
    have matching := received.profileMatch_slotKept i x
    have accepts : Accepts ((received.profileMatch i x).record i).lastSequence x skipped := by
      have last : ((received.profileMatch i x).record i).lastSequence = (s.record i).lastSequence := by
        rw [matching.lastSequence, here]; rfl
      rw [last]
      rcases gap with ⟨absent, rfl⟩ | ⟨n, last, gap, small⟩ | ⟨n, last, back, flag, rfl⟩
      · exact .first absent
      · exact .forward n skipped last gap small
      · exact .restart n last back flag
    obtain ⟨kept, others⟩ := State.workSequence_kept accepts
    rw [matching.here, here] at kept
    have frame := (received.profileMatch_frame i x).trans (State.workSequence_frame _ i x)
    have mgmt := firstCopy_mgmt s l f h x
    have bins := firstCopy_bins s l f h x
    generalize (received.profileMatch i x).workSequence i x = t at work kept others frame ⊢
    refine ⟨t, take.trans (congrArg Host.Outcome.next work), rfl, congrArg BinRecord.lastSequence kept, ?_, ?_, ?_,
      congrArg (fun r => r.counters.received) kept, congrArg (fun r => r.counters.applied) kept,
      congrArg (fun r => r.counters.missedByGap) kept, (congrArg BinRecord.identifier kept :), ?_, (congrArg BinRecord.cls kept :), ?_, frame.copies,
      frame.mgmt.trans mgmt, frame.stores.trans (reported_stores s l f h), frame.sweep.trans (reported_sweep s l f h), ?_, ?_, frame.egress,
      fun j ne => ?_⟩
    · rw [← arrival_of_reports first.1]; exact congrArg BinRecord.lastArrival kept
    · rw [← lane_of_reports first.1]; exact congrArg BinRecord.lanesHeard kept
    · rw [← rssi_of_reports first.1]; exact congrArg BinRecord.bestRssi kept
    · rw [← active]; exact (congrArg BinRecord.admin kept :)
    · rw [← profile]; exact (congrArg BinRecord.profileFilter kept :)
    · rw [← bins]; exact frame.directory
    · rw [← bins]; exact frame.discovery
    · rw [others j ne, matching.others j ne, State.record_setRecord_ne _ _ ne.symm, firstCopy_record]
  · exact State.profileMatch_of_matched matched x
  · exact State.profileMatch_of_counts mismatched (Nat.ne_of_lt early) x
  · exact State.profileMatch_of_returns mismatched third x
  · rw [State.workSequence_of_first last, State.accept_eq]; rfl
  · rw [State.workSequence_of_forward last gap small, State.accept_eq]; rfl
  · rw [State.workSequence_of_restart last back flag, State.accept_eq, State.sensorRestart, State.record_notifySlot]
    rfl

end Sys2Proof.Machine

/-! PROOF. SET_PARAMS (O42). -/

namespace Sys2Proof.Machine

open Sys2Proof.Safety

/-! ### The table of 10.5 -/

/-- The numbers of the enumerated parameters (10.5). -/
def enumeratedNumbers : List Nat := [1, 2, 3, 4, 5, 10, 11, 13]

/-- The numeric parameters with their limits (10.5). -/
def numericLimits : List (Nat × Nat × Nat) :=
  [(6, 1, 1023), (7, 1, 15), (8, 1, 15), (9, 1, 15), (12, 50, 2000), (14, 10, 600), (15, 1, 60), (16, 1, 32), (17, 10, 3600)]

theorem paramRange_none_of_gt {n : Nat} (h : 17 < n) : paramRange n = none := by
  unfold paramRange
  split
  case h_10 => rfl
  all_goals omega

theorem numericLimits_find? (n : Nat) : numericLimits.find? (fun x => x.1 == n) = (paramRange n).map fun r => (n, r) := by
  by_cases small : n ≤ 17
  · interval_cases n <;> rfl
  · rw [paramRange_none_of_gt (by omega)]
    refine List.find?_eq_none.2 fun x mem same => ?_
    have bounded : ∀ y ∈ numericLimits, y.1 ≤ 17 := by decide
    have := bounded x mem
    have := eq_of_beq same
    omega

theorem paramRange_le {n lo hi : Nat} (range : paramRange n = some (lo, hi)) : lo ≤ hi := by
  have limits := numericLimits_find? n
  rw [range] at limits
  have ordered : ∀ y ∈ numericLimits, y.2.1 ≤ y.2.2 := by decide
  exact ordered _ (List.mem_of_find?_eq_some limits)

theorem clampNat_eq {lo hi : Nat} (ordered : lo ≤ hi) (n : Nat) : clampNat lo hi n = if n < lo then lo else if hi < n then hi else n := by
  unfold clampNat
  split
  · omega
  · split <;> omega

/-- The value applied, from the table of limits (R173). -/
theorem appliedValue_eq (v : Nat × Nat) : appliedValue v =
    match numericLimits.find? (fun x => x.1 == v.1) with
    | some x => if v.2 < x.2.1 then x.2.1 else if x.2.2 < v.2 then x.2.2 else v.2
    | none => v.2 := by
  rw [numericLimits_find?, appliedValue]
  cases range : paramRange v.1 with
  | none => rfl
  | some r => exact clampNat_eq (paramRange_le range) _

theorem pairAdmitted_iff (v : Nat × Nat) :
    pairAdmitted v = true ↔ 1 ≤ v.1 ∧ v.1 ≤ 17 ∧ (v.1 ∈ enumeratedNumbers → v.2 ≤ 1) := by
  obtain ⟨n, value⟩ := v
  simp only [pairAdmitted, Bool.and_eq_true, decide_eq_true_eq, Bool.or_eq_true, and_assoc]
  refine and_congr_right fun low => and_congr_right fun high => ?_
  have kinds : (paramRange n).isSome = true ↔ n ∉ enumeratedNumbers := by
    interval_cases n <;> decide
  rw [kinds, imp_iff_not_or]

/-! ### The request -/

theorem readPairs_params {pairs : List (Nat × Nat)} (few : pairs.length < 256) (fits : ∀ v ∈ pairs, v.1 < 256 ∧ v.2 < 65536) :
    readPairs (pack8 pairs.length ++ (pairs.map fun v => pack8 v.1 ++ pack16 v.2).flatten) = pairs := by
  rw [readPairs, read8_pack8 few]
  exact readPairs_pack pairs fits (pack8 pairs.length)

theorem paramsFit_params {pairs : List (Nat × Nat)} (few : pairs.length < 256) :
    paramsFit (pack8 pairs.length ++ (pairs.map fun v => pack8 v.1 ++ pack16 v.2).flatten) = true := by
  have length := flatten_map_length (n := 3) (fun v : Nat × Nat => pack8 v.1 ++ pack16 v.2) (fun _ => rfl) pairs
  rw [paramsFit, read8_pack8 few, List.length_append, length, pack8_length]
  simp

theorem ownSetParams_of_admitted {s : State} {ps : List Byte} {pairs : List (Nat × Nat)} (read : readPairs ps = pairs)
    (some : 1 ≤ pairs.length) (few : pairs.length ≤ 17) (admitted : ∀ v ∈ pairs, pairAdmitted v = true) : ownSetParams s ps =
      { state := { s with mgmt := { s.mgmt with params := pairs.foldl (fun p v => p.write v.1 (appliedValue v)) s.mgmt.params } }
        status := if pairs.all (fun v => appliedValue v == v.2) then .ok else .clamped
        results := pack8 pairs.length ++ (pairs.map fun v => pack8 v.1 ++ pack16 (appliedValue v)).flatten } := by
  subst read
  refine if_neg ?_
  rintro (empty | many | bad)
  · omega
  · omega
  · exact absurd (List.all_eq_true.2 admitted) (Bool.eq_false_iff.1 bad)

theorem ownSetParams_of_bad {s : State} {ps : List Byte} {pairs : List (Nat × Nat)} (read : readPairs ps = pairs)
    (bad : pairs = [] ∨ 17 < pairs.length ∨ ∃ v ∈ pairs, ¬pairAdmitted v = true) : ownSetParams s ps = s.refuse .badParam := by
  subst read
  refine if_pos ?_
  rcases bad with empty | many | ⟨v, mem, bad⟩
  · exact .inl (by rw [empty]; rfl)
  · exact .inr (.inl many)
  · exact .inr (.inr (Bool.eq_false_iff.2 fun all => bad (List.all_eq_true.1 all v mem)))

/-- Settles O42. -/
theorem setParamsAppliesEveryPairOrNone : Obligations.SetParamsAppliesEveryPairOrNone := by
  refine ⟨fun s q pairs asks few fits params => ?_, fun p v => ⟨fun l => ?_, rfl, rfl, rfl, rfl, rfl, rfl, rfl, rfl, rfl, rfl, rfl, rfl, rfl,
    rfl, rfl, rfl, rfl⟩⟩
  · intro enumerated admitted limits applied
    have read : readPairs q.params = pairs := params ▸ readPairs_params few fits
    have long : paramsFit q.params = true := params ▸ paramsFit_params few
    have same : appliedValue = applied := funext appliedValue_eq
    refine ⟨fun some short all => ?_, fun bad => ?_⟩
    · have taken := serve_of_requests ownSetParams asks long
      rw [ownSetParams_of_admitted read some short fun v mem => (pairAdmitted_iff v).2 (all v mem), same] at taken
      exact taken
    · refine serve_of_refused asks long (ownSetParams_of_bad read ?_)
      exact bad.imp_right (Or.imp_right fun ⟨v, mem, no⟩ => ⟨v, mem, fun yes => no ((pairAdmitted_iff v).1 yes)⟩)
  · match l with
    | 0 | 1 | 2 | 3 => exact ⟨rfl, rfl⟩

end Sys2Proof.Machine

/-! PROOF. PROVISION (O43). -/

namespace Sys2Proof.Machine

open Sys2Proof.Safety

/-! ### Switches and numbers read -/

theorem readSwitch_of_gt {ps : List Byte} {i : Nat} (h : 1 < read8 ps i) : readSwitch ps i = none :=
  (if_neg (by omega)).trans (if_neg (by omega))

theorem readSwitch_of_zero {ps : List Byte} {i : Nat} (h : read8 ps i = 0) : readSwitch ps i = some false := if_pos h

theorem readSwitch_of_one {ps : List Byte} {i : Nat} (h : read8 ps i = 1) : readSwitch ps i = some true :=
  (if_neg (by omega)).trans (if_pos h)

theorem readIndex_eq_some {ps : List Byte} {i n : Nat} (h : read8 ps i = n) (small : n < 16) : readIndex ps i = some ⟨n, small⟩ :=
  readIndex_of_eq h

theorem slotOf_eq_some {n : Nat} (small : n < 8192) : slotOf n = some ⟨n, small⟩ := dif_pos small

theorem validIdentifier_iff (id : Word32) : validIdentifier id = true ↔ id ≠ 0 ∧ id ≠ 0xFFFFFFFF := by
  simp [validIdentifier]

/-! ### The parameters (R52) -/

/-- The parameter bytes of PROVISION, field by field. -/
def provisionBytes (id : Word32) (cls pf flag slot : Nat) : List Byte :=
  pack32 id.toNat ++ pack8 cls ++ pack8 pf ++ pack8 flag ++ pack16 slot

theorem provisionBytes_given (id : Word32) (cls pf : Nat) (given : Option Slot) :
    pack32 id.toNat ++ pack8 cls ++ pack8 pf ++ packOpt 2 (fun k : Slot => pack16 k.val) given =
      provisionBytes id cls pf (if given.isSome then 1 else 0) (match given with | some k => k.val | none => 0) := by
  cases given <;> rfl

section
variable {id : Word32} {cls pf flag slot : Nat}

theorem provisionBytes_length : (provisionBytes id cls pf flag slot).length = 9 := rfl

theorem provisionBytes_identifier : BitVec.ofNat 32 (read32 (provisionBytes id cls pf flag slot) 0) = id := read32_pack32_toNat id []

theorem provisionBytes_class (fits : cls < 256) : read8 (provisionBytes id cls pf flag slot) 4 = cls := Nat.mod_eq_of_lt fits

theorem provisionBytes_filter (fits : pf < 256) : read8 (provisionBytes id cls pf flag slot) 5 = pf := Nat.mod_eq_of_lt fits

theorem provisionBytes_flag (fits : flag < 256) : read8 (provisionBytes id cls pf flag slot) 6 = flag := Nat.mod_eq_of_lt fits

theorem provisionBytes_slot (fits : slot < 65536) : read16 (provisionBytes id cls pf flag slot) 7 = slot := read16_pack16 fits []

end

theorem readGivenSlot_of_no {ps : List Byte} (flag : read8 ps 6 = 0) : readGivenSlot ps = some none := by
  rw [readGivenSlot, readSwitch_of_zero flag]

theorem readGivenSlot_of_yes {ps : List Byte} (flag : read8 ps 6 = 1) : readGivenSlot ps = (slotOf (read16 ps 7)).map some := by
  rw [readGivenSlot, readSwitch_of_one flag]

theorem readGivenSlot_of_bad {ps : List Byte} (flag : 1 < read8 ps 6) : readGivenSlot ps = none := by
  rw [readGivenSlot, readSwitch_of_gt flag]

/-! ### The checks in their order (R52) -/

section
variable {s : State} {ps : List Byte}

theorem ownProvision_of_bad (bad : validIdentifier (BitVec.ofNat 32 (read32 ps 0)) = false ∨ readIndex ps 4 = none ∨ readIndex ps 5 = none ∨
    readGivenSlot ps = none) : ownProvision s ps = s.refuse .badParam := by
  unfold ownProvision
  extract_lets identifier
  split
  next valid cls filter given => simp [identifier, valid, cls, filter, given] at bad
  next => rfl

/-- The checks after the parameters, in their order, and the placing (R52, R53). -/
def State.provision (s : State) (id : Word32) (cls pf : Index16) (given : Option Slot) : Reply :=
  if (s.classDesc cls).loaded = false then s.refuse .badParam
  else match s.lookup id with
    | some i => { state := s, status := .exists, results := pack16 i.val }
    | none =>
      match s.slotToTake given with
      | none => s.refuse .noSlot
      | some i =>
        match s.freeWay id with
        | none => s.refuse .directoryFull
        | some k => { state := s.placeBin i k id cls pf, status := .ok, results := pack16 i.val }

theorem ownProvision_of_fields {id : Word32} {cls pf : Index16} {given : Option Slot} (identifier : BitVec.ofNat 32 (read32 ps 0) = id)
    (valid : validIdentifier id = true) (class_ : readIndex ps 4 = some cls) (filter : readIndex ps 5 = some pf)
    (slot : readGivenSlot ps = some given) : ownProvision s ps = s.provision id cls pf given := by
  subst identifier
  unfold ownProvision
  extract_lets id
  rw [valid, class_, filter, slot]
  rfl

variable {id : Word32} {cls pf : Index16} {given : Option Slot}

theorem State.provision_of_unloaded (unloaded : (s.classDesc cls).loaded = false) : s.provision id cls pf given = s.refuse .badParam :=
  if_pos unloaded

theorem State.provision_of_known (loaded : (s.classDesc cls).loaded = true) {i : Slot} (known : s.lookup id = some i) :
    s.provision id cls pf given = { state := s, status := .exists, results := pack16 i.val } := by
  rw [State.provision, if_neg (by rw [loaded]; decide), known]

theorem State.provision_of_noSlot (loaded : (s.classDesc cls).loaded = true) (unknown : s.lookup id = none)
    (taken : s.slotToTake given = none) : s.provision id cls pf given = s.refuse .noSlot := by
  rw [State.provision, if_neg (by rw [loaded]; decide), unknown, taken]

theorem State.provision_of_rowFull (loaded : (s.classDesc cls).loaded = true) (unknown : s.lookup id = none)
    (free : s.slotToTake given ≠ none) (full : s.freeWay id = none) : s.provision id cls pf given = s.refuse .directoryFull := by
  obtain ⟨i, take⟩ := Option.ne_none_iff_exists'.1 free
  rw [State.provision, if_neg (by rw [loaded]; decide), unknown, take, full]

theorem State.provision_of_places (loaded : (s.classDesc cls).loaded = true) (unknown : s.lookup id = none) {i : Slot}
    (take : s.slotToTake given = some i) {k : Fin 16384} (way : s.freeWay id = some k) :
    s.provision id cls pf given = { state := s.placeBin i k id cls pf, status := .ok, results := pack16 i.val } := by
  rw [State.provision, if_neg (by rw [loaded]; decide), unknown, take, way]

end

/-- The record and the way of a bin placed, and the Discovery List without its identifier (R53, R62). -/
theorem State.placeBin_eq (s : State) (i : Slot) (k : Fin 16384) (id : Word32) (cls pf : Index16) : s.placeBin i k id cls pf =
    { s with bins :=
      { directory := s.bins.directory.set k { valid := true, identifier := id, slot := i }
        records := s.bins.records.set i (provisioned (s.classDesc cls) id cls pf s.mgmt.secs)
        discovery := s.bins.discovery.filter fun e => decide (e.identifier ≠ id) } } := by
  have others : (fun e : DiscoveryEntry => e.identifier != id) = fun e => decide (e.identifier ≠ id) := by
    funext e
    simp [bne, Bool.beq_eq_decide_eq]
  rw [← others]
  rfl

theorem State.slotToTake_of_given {s : State} {k : Slot} (free : (s.record k).admin = .free) : s.slotToTake (some k) = some k := if_pos free

theorem State.slotToTake_none_iff (s : State) (given : Option Slot) : s.slotToTake given = none ↔
    match given with
    | some k => (s.record k).admin ≠ .free
    | none => ∀ k : Slot, (s.record k).admin ≠ .free := by
  cases given with
  | some k =>
    refine ⟨fun absent free => ?_, fun taken => if_neg taken⟩
    rw [State.slotToTake_of_given free] at absent
    cases absent
  | none =>
    refine ⟨fun absent => State.freeSlot_none absent, fun taken => ?_⟩
    cases found : s.slotToTake none with
    | none => rfl
    | some i => exact absurd (State.slotToTake_free found) (taken i)

theorem State.freeSlotFrom_congr {s t : State} (same : ∀ i, t.record i = s.record i) (fuel k : Nat) :
    t.freeSlotFrom fuel k = s.freeSlotFrom fuel k := by
  induction fuel generalizing k with
  | zero => rfl
  | succ n ih => simp only [State.freeSlotFrom, same, ih]

theorem State.slotToTake_dropRequest (s : State) (given : Option Slot) : s.dropRequest.slotToTake given = s.slotToTake given := by
  cases given with
  | some k => rfl
  | none =>
    simp only [State.slotToTake, State.freeSlot]
    rw [State.freeSlotFrom_congr (s := s) (t := s.dropRequest) fun _ => rfl]

/-! ### The parameters refused and accepted (R52) -/

/-- The parameters that PROVISION refuses. -/
def ProvisionBad (id : Word32) (cls pf flag slot : Nat) : Prop :=
  id = 0 ∨ id = 0xFFFFFFFF ∨ 15 < cls ∨ 15 < pf ∨ 1 < flag ∨ (flag = 1 ∧ 8191 < slot)

/-- The slot that PROVISION asks for is taken, or, where it names none, every slot is. -/
def SlotsTaken (s : State) (flag slot : Nat) : Prop :=
  (flag = 1 ∧ ∀ k : Slot, k.val = slot → (s.record k).admin ≠ .free) ∨ (flag = 0 ∧ ∀ k : Slot, (s.record k).admin ≠ .free)

section
variable {s : State} {ps : List Byte} {id : Word32} {cls pf flag slot : Nat}

theorem ownProvision_of_badFields (identifier : BitVec.ofNat 32 (read32 ps 0) = id) (readClass : read8 ps 4 = cls)
    (readFilter : read8 ps 5 = pf) (readFlag : read8 ps 6 = flag) (readSlot : read16 ps 7 = slot)
    (bad : ProvisionBad id cls pf flag slot) : ownProvision s ps = s.refuse .badParam := by
  apply ownProvision_of_bad
  rw [identifier]
  rcases bad with zero | ones | big | big | big | ⟨one, big⟩
  · exact .inl (Bool.eq_false_iff.2 fun valid => ((validIdentifier_iff id).1 valid).1 zero)
  · exact .inl (Bool.eq_false_iff.2 fun valid => ((validIdentifier_iff id).1 valid).2 ones)
  · exact .inr (.inl (readIndex_of_gt (readClass.symm ▸ big)))
  · exact .inr (.inr (.inl (readIndex_of_gt (readFilter.symm ▸ big))))
  · exact .inr (.inr (.inr (readGivenSlot_of_bad (readFlag.symm ▸ big))))
  · refine .inr (.inr (.inr ((readGivenSlot_of_yes (readFlag.trans one)).trans ?_)))
    rw [readSlot, slotOf_none.2 (by omega)]; rfl

theorem provision_fits (good : ¬ProvisionBad id cls pf flag slot) :
    (id ≠ 0 ∧ id ≠ 0xFFFFFFFF) ∧ cls < 16 ∧ pf < 16 ∧ flag ≤ 1 ∧ (flag = 1 → slot < 8192) := by
  simp only [ProvisionBad, not_or, not_and] at good
  obtain ⟨nonzero, notOnes, cls, pf, flag, slot⟩ := good
  exact ⟨⟨nonzero, notOnes⟩, by omega, by omega, by omega, fun one => by have := slot one; omega⟩

/-- The slot given is read, and none can be taken exactly where the slots asked for are taken. -/
theorem readGivenSlot_slotsTaken (s : State) (readFlag : read8 ps 6 = flag) (readSlot : read16 ps 7 = slot) (small : flag ≤ 1)
    (slotFits : flag = 1 → slot < 8192) :
    ∃ given, readGivenSlot ps = some given ∧ (SlotsTaken s flag slot ↔ s.slotToTake given = none) := by
  rcases Nat.le_one_iff_eq_zero_or_eq_one.1 small with rfl | rfl
  · refine ⟨none, readGivenSlot_of_no readFlag, ?_⟩
    rw [State.slotToTake_none_iff]
    simp [SlotsTaken]
  · have inside := slotFits rfl
    refine ⟨some ⟨slot, inside⟩, ?_, ?_⟩
    · rw [readGivenSlot_of_yes readFlag, readSlot, slotOf_eq_some inside]; rfl
    · rw [State.slotToTake_none_iff]
      refine ⟨fun taken => ?_, fun taken => .inl ⟨rfl, fun k same => ?_⟩⟩
      · rcases taken with ⟨-, taken⟩ | ⟨no, -⟩
        · exact taken ⟨slot, inside⟩ rfl
        · cases no
      · obtain rfl : k = ⟨slot, inside⟩ := Fin.ext same
        exact taken

end

/-- Settles O43: the checks are read off the fields in their order, and the first that fails gives the answer. -/
theorem provisionPlacesOrRefuses : Obligations.ProvisionPlacesOrRefuses := by
  refine ⟨fun s q id cls pf given i w asks params nonzero ones loaded unknown slot invalid lower => ?_,
    fun s q id cls pf flag slot asks fitsClass fitsFilter fitsFlag fitsSlot params => ?_⟩
  · have bytes := params.trans (provisionBytes_given ..)
    have taken := serve_of_requests ownProvision asks (exactly_of_length (n := 9) (bytes ▸ provisionBytes_length))
    have readGiven : readGivenSlot q.params = some given := by
      rw [bytes]
      cases given with
      | none => exact readGivenSlot_of_no (provisionBytes_flag (by decide))
      | some k =>
        refine (readGivenSlot_of_yes (provisionBytes_flag (by decide))).trans ?_
        rw [provisionBytes_slot (k.isLt.trans (by decide)), slotOf_val]; rfl
    have take : s.slotToTake given = some i := by
      cases given with
      | none => exact State.freeSlot_eq slot.1 slot.2
      | some k => obtain ⟨rfl, free⟩ := slot; exact State.slotToTake_of_given free
    have fields := ownProvision_of_fields (s := s.dropRequest) (by rw [bytes]; exact provisionBytes_identifier)
      ((validIdentifier_iff id).2 ⟨nonzero, ones⟩) (readIndex_of_eq (k := cls) (by rw [bytes]; exact provisionBytes_class (by omega)))
      (readIndex_of_eq (k := pf) (by rw [bytes]; exact provisionBytes_filter (by omega))) readGiven
    rw [fields, State.provision_of_places (s := s.dropRequest) loaded unknown ((s.slotToTake_dropRequest given).trans take) (State.freeWay_eq (s := s.dropRequest) invalid lower),
      State.placeBin_eq] at taken
    exact taken
  · intro bad unloaded occupied rowFull
    have bytes : q.params = provisionBytes id cls pf flag slot := params
    have long : exactly 9 q.params = true := exactly_of_length (bytes ▸ provisionBytes_length)
    have readClass : read8 q.params 4 = cls := by rw [bytes]; exact provisionBytes_class fitsClass
    have readFilter : read8 q.params 5 = pf := by rw [bytes]; exact provisionBytes_filter fitsFilter
    have readFlag : read8 q.params 6 = flag := by rw [bytes]; exact provisionBytes_flag fitsFlag
    have readSlot : read16 q.params 7 = slot := by rw [bytes]; exact provisionBytes_slot fitsSlot
    have identifier : BitVec.ofNat 32 (read32 q.params 0) = id := by rw [bytes]; exact provisionBytes_identifier
    by_cases refused : bad
    · exact ⟨fun _ => serve_of_refused asks long (ownProvision_of_badFields identifier readClass readFilter readFlag readSlot refused),
        fun fine => absurd refused fine, fun fine => absurd refused fine, fun fine => absurd refused fine⟩
    · obtain ⟨valid, smallClass, smallFilter, smallFlag, smallSlot⟩ := provision_fits refused
      obtain ⟨given, readGiven, slotTaken⟩ := readGivenSlot_slotsTaken s readFlag readSlot smallFlag smallSlot
      have isLoaded : unloaded ↔ (s.classDesc ⟨cls, smallClass⟩).loaded = false :=
        ⟨fun h => h ⟨cls, smallClass⟩ rfl, fun h c same => by obtain rfl : c = ⟨cls, smallClass⟩ := Fin.ext same; exact h⟩
      have fields := ownProvision_of_fields (s := s.dropRequest) identifier ((validIdentifier_iff id).2 valid)
        (readIndex_eq_some readClass smallClass) (readIndex_eq_some readFilter smallFilter) readGiven
      have taken := serve_of_requests ownProvision asks long
      rw [fields] at taken
      refine ⟨fun no => ?_, fun _ loaded i known => ?_, fun _ loaded unknown full => ?_, fun _ loaded unknown room full => ?_⟩
      · rw [State.provision_of_unloaded (s := s.dropRequest) (isLoaded.1 (no.resolve_left refused))] at taken
        exact taken
      all_goals have loaded := Bool.not_eq_false _ ▸ mt isLoaded.2 loaded
      · rw [State.provision_of_known (s := s.dropRequest) loaded known] at taken
        exact taken
      · rw [State.provision_of_noSlot (s := s.dropRequest) loaded unknown ((s.slotToTake_dropRequest given).trans (slotTaken.1 full))] at taken
        exact taken
      · rw [State.provision_of_rowFull (s := s.dropRequest) loaded unknown (by rw [s.slotToTake_dropRequest]; exact mt slotTaken.2 room)
          (State.freeWay_none.2 full)] at taken
        exact taken

end Sys2Proof.Machine

/-! PROOF. The requests about a bin that is provisioned: RETIRE, SET_ADMIN, CONFIRM_VISIT and READ_BIN (O44 to O46, O51). -/

namespace Sys2Proof.Machine

open Sys2Proof.Safety

/-! ### The bin that a request names (R50, R54) -/

theorem keyBytes_length (key : BinKey) : (keyBytes key).length = 5 := by cases key <;> rfl

theorem readKey_keyBytes (key : BinKey) (rest : List Byte) : readKey (keyBytes key ++ rest) = some key := by
  cases key with
  | byIdentifier id =>
    have word : BitVec.ofNat 32 (read32 (keyBytes (.byIdentifier id) ++ rest) 1) = id := read32_pack32_toNat id rest
    refine (if_pos rfl).trans ?_
    rw [word]
  | bySlot i =>
    have word : read32 (keyBytes (.bySlot i) ++ rest) 1 = i.val := read32_pack32 (i.isLt.trans (by decide)) rest
    refine (if_neg ?_).trans ((if_pos rfl).trans ?_)
    · exact Nat.one_ne_zero
    · rw [word, slotOf_val]; rfl

theorem readKey_keyBytes_self (key : BinKey) : readKey (keyBytes key) = some key := by
  rw [← List.append_nil (keyBytes key)]; exact readKey_keyBytes key []

theorem read8_keyBytes_five (key : BinKey) (rest : List Byte) : read8 (keyBytes key ++ rest) 5 = read8 rest 0 := by
  cases key <;> rfl

section
variable {s : State} {key : BinKey} {i : Slot}

theorem State.resolve_of_names (names : Names s key i) : s.resolve key = some i := by
  cases key with
  | byIdentifier id => exact names
  | bySlot j => obtain ⟨rfl, provisioned⟩ := names; exact if_neg provisioned

theorem State.resolve_of_namesNone (none_ : NamesNone s key) : s.resolve key = none := by
  cases key with
  | byIdentifier id => exact none_
  | bySlot j => exact if_pos none_

end

/-! ### A slot off the Visit List, its record rewritten -/

theorem visitListSound_dropRequest {s : State} (sound : VisitListSound s) : VisitListSound s.dropRequest := { sound with }

theorem decide_ne_eq_bne {α : Type} (f : α → Slot) (i : Slot) : (fun e => decide (f e ≠ i)) = fun e => f e != i := by
  funext e
  simp [bne, Bool.beq_eq_decide_eq]

section
variable {s : State} (sound : VisitListSound s) (i : Slot)
include sound

theorem State.leaveList_setRecord (r : BinRecord) : ∃ rs : Vector BinRecord 8192,
    (s.leaveList i (s.record i).band).setRecord i r =
      { s with visits := visitsAfterLeave s i, bins := { s.bins with records := rs } } ∧
      rs[i] = r ∧ ∀ j ≠ i, rs[j] = recordAfterLeave s i j := by
  obtain ⟨left, -⟩ := State.leaveList_left sound (i := i) (r := s.record i) rfl
  rw [State.setRecord_record] at left
  obtain ⟨v, rs, list⟩ := s.leaveList_onlyList i (s.record i).band
  rw [list] at left ⊢
  obtain rfl : v = visitsAfterLeave s i := left.visits
  refine ⟨rs.set i r, rfl, by simp, fun j ne => ?_⟩
  exact (State.record_setRecord_ne _ r ne.symm).trans (left.behind j ne)

theorem State.withdrawn_rebinned (r : BinRecord) (d : Vector DirWay 16384) : ∃ rs : Vector BinRecord 8192,
    (s.withdrawn i).rebinned i r d =
      { s with
        visits := visitsAfterLeave s i
        downlink := { s.downlink with queue := s.downlink.queue.filter fun e => decide (e.slot ≠ i) }
        bins := { s.bins with directory := d, records := rs } } ∧
      rs[i] = r ∧ ∀ j ≠ i, rs[j] = recordAfterLeave s i j := by
  obtain ⟨rs, written, here, others⟩ := State.leaveList_setRecord sound i r
  refine ⟨rs, ?_, here, others⟩
  have whole : (s.withdrawn i).rebinned i r d =
      { (s.leaveList i (s.record i).band).setRecord i r with
        downlink := ((s.leaveList i (s.record i).band).setRecord i r).downlink.removeEntry i
        bins := { ((s.leaveList i (s.record i).band).setRecord i r).bins with directory := d } } := rfl
  rw [whole, written, decide_ne_eq_bne]
  rfl

end

/-! ### RETIRE (R54) -/

/-- Settles O44. -/
theorem retireFreesTheSlot : Obligations.RetireFreesTheSlot := by
  intro s q key asks params
  have long : exactly 5 q.params = true := exactly_of_length (params ▸ keyBytes_length key)
  have reads : readKey q.params = some key := params ▸ readKey_keyBytes_self key
  refine ⟨fun absent => ?_, fun i names identifiers visits => ?_⟩
  · have refused : ownRetire s.dropRequest q.params = s.dropRequest.refuse .notFound := by
      have resolves : s.dropRequest.resolve key = none := State.resolve_of_namesNone (s := s) absent
      rw [ownRetire, reads]
      dsimp only
      rw [resolves]
    exact serve_of_refused asks long refused
  · have resolves : s.dropRequest.resolve key = some i := State.resolve_of_names (s := s) names
    have taken := serve_of_requests ownRetire asks long
    obtain ⟨rs, whole, here, others⟩ := State.withdrawn_rebinned (visitListSound_dropRequest visits) i BinRecord.free
      (s.dropRequest.unmap (s.dropRequest.record i).identifier).bins.directory
    rw [ownRetire, reads] at taken
    dsimp only at taken
    rw [resolves] at taken
    dsimp only at taken
    rw [State.retireSlot_eq, whole] at taken
    refine ⟨_, taken, here, others, fun id => ?_, rfl⟩
    refine (State.lookup_congr (s := s.unmap (s.record i).identifier) ?_ id).trans
      (State.lookup_unmap identifiers (State.resolve_provisioned identifiers resolves) id)
    exact State.unmap_congr (s := s) (t := s.dropRequest) rfl _

/-! ### SET_ADMIN (R55, R56) -/

section
variable {s : State} {ps : List Byte} {key : BinKey} {target : Admin}

theorem ownSetAdmin_of_bad (bad : targetOf (read8 ps 5) = none) : ownSetAdmin s ps = s.refuse .badParam := by
  unfold ownSetAdmin
  rw [bad]
  cases readKey ps <;> rfl

theorem ownSetAdmin_of_absent (reads : readKey ps = some key) (aims : targetOf (read8 ps 5) = some target) (absent : s.resolve key = none) :
    ownSetAdmin s ps = s.refuse .notFound := by
  unfold ownSetAdmin
  rw [reads, aims]
  dsimp only
  rw [absent]

theorem ownSetAdmin_of_bin (reads : readKey ps = some key) (aims : targetOf (read8 ps 5) = some target) {i : Slot}
    (resolves : s.resolve key = some i) : ownSetAdmin s ps =
      { state := s.setAdmin i target, status := .ok, results := s.packSlotAndId i ++ pack8 target.code } := by
  unfold ownSetAdmin
  rw [reads, aims]
  dsimp only
  rw [resolves]

end

theorem targetOf_none {n : Nat} (h1 : n ≠ 1) (h2 : n ≠ 2) : targetOf n = none := by
  match n with
  | 0 | n + 3 => rfl
  | 1 => exact absurd rfl h1
  | 2 => exact absurd rfl h2

/-- Settles O45. -/
theorem setAdminSuspendsAndReactivates : Obligations.SetAdminSuspendsAndReactivates := by
  intro s q key target asks small params
  have long : exactly 6 q.params = true := exactly_of_length (by rw [params, List.length_append, keyBytes_length]; rfl)
  have reads : readKey q.params = some key := params ▸ readKey_keyBytes key _
  have code : read8 q.params 5 = target := by
    rw [params, read8_keyBytes_five]; exact read8_pack8 small []
  refine ⟨fun h1 h2 => ?_, fun valid absent => ?_, fun i names => ?_⟩
  · exact serve_of_refused asks long (ownSetAdmin_of_bad (code.symm ▸ targetOf_none h1 h2))
  · have resolves : s.dropRequest.resolve key = none := State.resolve_of_namesNone (s := s) absent
    rcases valid with rfl | rfl
    · exact serve_of_refused asks long (ownSetAdmin_of_absent reads (congrArg targetOf code) resolves)
    · exact serve_of_refused asks long (ownSetAdmin_of_absent reads (congrArg targetOf code) resolves)
  · intro r done
    have resolves : s.dropRequest.resolve key = some i := State.resolve_of_names (s := s) names
    have taken {aim : Admin} (aims : targetOf target = some aim) :=
      (serve_of_requests ownSetAdmin asks long).trans (congrArg (fun a : Reply => Host.Outcome.next (a.place q))
        (ownSetAdmin_of_bin reads ((congrArg targetOf code).trans aims) resolves))
    refine ⟨fun stays => ?_, fun suspends active visits => ?_, fun reactivates suspended => ?_⟩
    · rcases stays with ⟨rfl, active⟩ | ⟨rfl, suspended⟩
      · refine (taken (aim := .active) rfl).trans ?_
        rw [State.setAdmin, if_pos (show (s.dropRequest.record i).admin = .active from active)]
        rfl
      · refine (taken (aim := .suspended) rfl).trans ?_
        rw [State.setAdmin, if_pos (show (s.dropRequest.record i).admin = .suspended from suspended)]
        rfl
    · subst suspends
      obtain ⟨rs, whole, here, others⟩ := State.withdrawn_rebinned (visitListSound_dropRequest visits) i
        { s.dropRequest.record i with links := none, admin := .suspended } s.dropRequest.bins.directory
      have taken := taken (aim := .suspended) rfl
      rw [State.setAdmin, if_neg (show ¬(s.dropRequest.record i).admin = .suspended by rw [State.record_dropRequest, active]; decide),
        if_pos rfl, State.suspend_eq, whole] at taken
      exact ⟨_, taken, here, others, rfl⟩
    · subst reactivates
      refine (taken (aim := .active) rfl).trans ?_
      rw [State.setAdmin, if_neg (show ¬(s.dropRequest.record i).admin = .active by rw [State.record_dropRequest, suspended]; decide),
        if_neg (by decide)]
      rfl

/-! ### CONFIRM_VISIT (R102) -/

section
variable {s : State} {ps : List Byte} {key : BinKey}

theorem ownConfirmVisit_of_absent (reads : readKey ps = some key) (absent : s.resolve key = none) :
    ownConfirmVisit s ps = s.refuse .notFound := by
  unfold ownConfirmVisit
  rw [reads]
  dsimp only
  rw [absent]

theorem ownConfirmVisit_of_bin (reads : readKey ps = some key) {i : Slot} (resolves : s.resolve key = some i) : ownConfirmVisit s ps =
    if (s.record i).admin = .active then
      { state := s.confirmVisit i, status := .ok
        results := s.packSlotAndId i ++ pack8 (s.record i).band.code ++ packOpt 2 pack16 (s.record i).estimate ++
          packFlag (s.record i).links.isSome }
    else s.refuse .wrongState := by
  unfold ownConfirmVisit
  rw [reads]
  dsimp only
  rw [resolves]

end

/-- Settles O46. -/
theorem confirmVisitMarksAndUnlists : Obligations.ConfirmVisitMarksAndUnlists := by
  intro s q key asks params
  have long : exactly 5 q.params = true := exactly_of_length (params ▸ keyBytes_length key)
  have reads : readKey q.params = some key := params ▸ readKey_keyBytes_self key
  refine ⟨fun absent => ?_, fun i names => ?_⟩
  · exact serve_of_refused asks long (ownConfirmVisit_of_absent reads (State.resolve_of_namesNone (s := s) absent))
  · have bin := ownConfirmVisit_of_bin (s := s.dropRequest) reads (State.resolve_of_names (s := s) names)
    refine ⟨fun suspended => ?_, fun active visits => ?_⟩
    · exact serve_of_refused asks long (bin.trans (if_neg (by rw [State.record_dropRequest, suspended]; decide)))
    · have taken := serve_of_requests ownConfirmVisit asks long
      obtain ⟨rs, whole, here, others⟩ := State.leaveList_setRecord (visitListSound_dropRequest visits) i
        { s.dropRequest.record i with links := none, visitMark := true }
      rw [bin, if_pos (show (s.dropRequest.record i).admin = .active from active), State.confirmVisit_eq, whole] at taken
      exact ⟨_, taken, here, others, rfl⟩

end Sys2Proof.Machine

/-! PROOF. The tables: what LOAD_FILTER, LOAD_LAYOUT, LOAD_CLASS and READ_CLASS read, store and refuse (O48, O50). -/

namespace Sys2Proof.Machine

open Sys2Proof.Safety

/-! ### Fields read (R167, R189) -/

section
variable {ps : List Byte} {i : Nat}

theorem readIndex_eq_some_iff {k : Index16} : readIndex ps i = some k ↔ read8 ps i = k.val := by
  refine ⟨fun h => ?_, readIndex_of_eq⟩
  unfold readIndex at h
  split at h
  · cases h; rfl
  · cases h

theorem readSwitch_eq_some_iff {b : Bool} : readSwitch ps i = some b ↔ read8 ps i = if b then 1 else 0 := by
  by_cases zero : read8 ps i = 0
  · rw [readSwitch_of_zero zero, zero]; cases b <;> simp
  by_cases one : read8 ps i = 1
  · rw [readSwitch_of_one one, one]; cases b <;> simp
  · rw [readSwitch_of_gt (by omega)]
    cases b <;> simp [zero, one]

theorem readUpTo_eq_some_iff {limit n : Nat} : readUpTo ps i limit = some n ↔ read8 ps i = n ∧ n ≤ limit := by
  unfold readUpTo
  split
  · rw [Option.some.injEq]
    exact ⟨fun e => ⟨e, by omega⟩, fun e => e.1⟩
  · simp only [reduceCtorEq, false_iff]; omega

theorem readOptional_eq_some_iff {limit : Nat} {o : Option Nat} : readOptional ps i limit = some o ↔
    read8 ps i = (if o.isSome then 1 else 0) ∧ read8 ps (i + 1) = o.getD 0 ∧ ∀ n ∈ o, n ≤ limit := by
  unfold readOptional
  cases o with
  | none =>
    by_cases zero : read8 ps i = 0
    · rw [if_pos zero]
      by_cases value : read8 ps (i + 1) = 0 <;> simp [zero, value]
    · rw [if_neg zero]
      split <;> simp [zero]
  | some n =>
    by_cases zero : read8 ps i = 0
    · rw [if_pos zero]
      split <;> simp [zero]
    · rw [if_neg zero]
      by_cases one : read8 ps i = 1
      · rw [if_pos one, Option.map_eq_some_iff]
        simp [one, readUpTo_eq_some_iff]
      · rw [if_neg one]; simp [one]

theorem actionOf_actionCode (a : FilterAction) : actionOf (actionCode a) = some a := by cases a <;> rfl

theorem orderOf_orderCode (o : ByteOrder) : orderOf (orderCode o) = some o := by cases o <;> rfl

theorem kindOf_kindCode (k : MeasureKind) : kindOf (kindCode k) = some k := by cases k <;> rfl

end

/-! ### LOAD_FILTER (R21) -/

section
variable {n : Nat} {f : Filter}

theorem filterBytes_length : (filterBytes n f).length = 12 := rfl

theorem read8_filterBytes_number (fits : n < 256) : read8 (filterBytes n f) 0 = n := Nat.mod_eq_of_lt fits

/-- A filter packed is read back, where its offset is in range. -/
theorem readFilter_filterBytes (small : f.offset ≤ 63) : readFilter (filterBytes n f) = some f := by
  have enable : readSwitch (filterBytes n f) 1 = some f.enable := readSwitch_append (pack8 n) f.enable _ rfl
  have offset : readUpTo (filterBytes n f) 2 63 = some f.offset := readUpTo_eq_some_iff.2 ⟨Nat.mod_eq_of_lt (by omega), small⟩
  have mask : BitVec.ofNat 16 (read16 (filterBytes n f) 3) = f.mask := read16_pack16_toNat f.mask []
  have signature : BitVec.ofNat 16 (read16 (filterBytes n f) 5) = f.signature := read16_pack16_toNat f.signature []
  have lastCheck : readSwitch (filterBytes n f) 7 = some f.lastCheck := readSwitch_packFlag f.lastCheck
  have lastValue : BitVec.ofNat 8 (read8 (filterBytes n f) 8) = f.lastValue :=
    (BitVec.ofNat_toNat 8 f.lastValue).trans (BitVec.setWidth_eq _)
  have cascade : readSwitch (filterBytes n f) 9 = some f.cascade := readSwitch_packFlag f.cascade
  have action : actionOf (read8 (filterBytes n f) 10) = some f.action := by
    have code : read8 (filterBytes n f) 10 = actionCode f.action := Nat.mod_eq_of_lt (by cases f.action <;> decide)
    rw [code, actionOf_actionCode]
  have layout : readIndex (filterBytes n f) 11 = some f.layout := readIndex_of_eq (Nat.mod_eq_of_lt (by omega))
  unfold readFilter
  rw [enable, offset, lastCheck, cascade, action, layout, mask, signature, lastValue]
  rfl

end

theorem readSwitch_le {ps : List Byte} {i : Nat} {b : Bool} (h : readSwitch ps i = some b) : read8 ps i ≤ 1 := by
  rw [readSwitch_eq_some_iff.1 h]; cases b <;> decide

theorem readIndex_le {ps : List Byte} {i : Nat} {k : Index16} (h : readIndex ps i = some k) : read8 ps i ≤ 15 := by
  rw [readIndex_eq_some_iff.1 h]; omega

theorem actionOf_le {n : Nat} {a : FilterAction} (h : actionOf n = some a) : n ≤ 3 := by
  unfold actionOf at h
  split at h
  case h_5 => cases h
  all_goals omega

/-- A filter is read only from fields in their ranges. -/
theorem readFilter_ranges {ps : List Byte} {f : Filter} (h : readFilter ps = some f) :
    read8 ps 1 ≤ 1 ∧ read8 ps 2 ≤ 63 ∧ read8 ps 7 ≤ 1 ∧ read8 ps 9 ≤ 1 ∧ read8 ps 10 ≤ 3 ∧ read8 ps 11 ≤ 15 := by
  simp only [readFilter, Option.bind_eq_bind, Option.bind_eq_some_iff] at h
  obtain ⟨_, enable, _, offset, _, lastCheck, _, cascade, _, action, _, layout, -⟩ := h
  obtain ⟨rfl, far⟩ := readUpTo_eq_some_iff.1 offset
  exact ⟨readSwitch_le enable, far, readSwitch_le lastCheck, readSwitch_le cascade, actionOf_le action, readIndex_le layout⟩

section
variable {s : State} {ps : List Byte}

theorem ownLoadFilter_of_unread (unread : readIndex ps 0 = none ∨ readFilter ps = none) :
    ownLoadFilter s ps = { state := s, status := .badParam, results := pack8 (read8 ps 0) } := by
  unfold ownLoadFilter
  extract_lets number
  split
  next index filter => rw [index, filter] at unread; simp at unread
  next => rfl

theorem ownLoadFilter_of_fits {n : Index16} {f : Filter} (index : readIndex ps 0 = some n) (filter : readFilter ps = some f)
    (ends : ¬(n.val = 15 ∧ f.cascade = true)) (short : (s.classifier.setFilter n f).chainsFit = true) : ownLoadFilter s ps =
      { state := { s with classifier := s.classifier.setFilter n f }, status := .ok, results := pack8 (read8 ps 0) } := by
  unfold ownLoadFilter
  rw [index, filter]
  exact if_neg fun bad => bad.elim ends fun long => by rw [short] at long; cases long

theorem ownLoadFilter_of_unfit {n : Index16} {f : Filter} (index : readIndex ps 0 = some n) (filter : readFilter ps = some f)
    (unfit : (n.val = 15 ∧ f.cascade = true) ∨ (s.classifier.setFilter n f).chainsFit = false) :
    ownLoadFilter s ps = { state := s, status := .badParam, results := pack8 (read8 ps 0) } := by
  unfold ownLoadFilter
  rw [index, filter]
  exact if_pos unfit

end

/-! ### LOAD_LAYOUT (R29, R30) -/

/-- A field that may be absent, in 1 byte: a presence byte and a value byte. -/
theorem packOpt_pack8 (o : Option Nat) : packOpt 1 pack8 o = pack8 (if o.isSome then 1 else 0) ++ pack8 (o.getD 0) := by
  cases o <;> rfl

/-- The numbers that the parameter bytes of LOAD_LAYOUT carry. -/
def layoutNumbers (n : Nat) (y : Layout) : List Nat :=
  [n, y.idOffset, orderCode y.idOrder, y.seqOffset, orderCode y.seqOrder, y.measureOffset, orderCode y.measureOrder, kindCode y.kind,
    if y.temperature.isSome then 1 else 0, y.temperature.getD 0, if y.flags.isSome then 1 else 0, y.flags.getD 0,
    if y.lid.isSome then 1 else 0, y.lid.getD 0, if y.tilt.isSome then 1 else 0, y.tilt.getD 0,
    if y.restart.isSome then 1 else 0, y.restart.getD 0, if y.shatter.isSome then 1 else 0, y.shatter.getD 0]

theorem layoutBytes_eq (n : Nat) (y : Layout) : layoutBytes n y = (layoutNumbers n y).map (BitVec.ofNat 8) := by
  simp only [layoutBytes, packOpt_pack8]; rfl

theorem read8_map_ofNat (l : List Nat) (i : Nat) : read8 (l.map (BitVec.ofNat 8)) i = l.getD i 0 % 256 := by
  simp only [read8, List.getD_eq_getElem?_getD, List.getElem?_map]
  cases l[i]? <;> simp

theorem read8_layoutBytes (n : Nat) (y : Layout) (i : Nat) : read8 (layoutBytes n y) i = (layoutNumbers n y).getD i 0 % 256 := by
  rw [layoutBytes_eq, read8_map_ofNat]

theorem layoutBytes_length (n : Nat) (y : Layout) : (layoutBytes n y).length = 20 := by rw [layoutBytes_eq]; rfl

theorem read8_layoutBytes_number {n : Nat} (fits : n < 256) (y : Layout) : read8 (layoutBytes n y) 0 = n :=
  (read8_layoutBytes n y 0).trans (Nat.mod_eq_of_lt fits)

theorem presence_mod (o : Option Nat) : (if o.isSome then 1 else 0) % 256 = if o.isSome then 1 else 0 := by cases o <;> rfl

theorem getD_mod {o : Option Nat} {limit : Nat} (small : ∀ p ∈ o, p ≤ limit) (fits : limit < 256) : o.getD 0 % 256 = o.getD 0 := by
  cases o with
  | none => rfl
  | some p => exact Nat.mod_eq_of_lt (Nat.lt_of_le_of_lt (small p rfl) fits)

theorem readOptional_layoutBytes {ps : List Byte} {i limit : Nat} {o : Option Nat} (presence : read8 ps i = (if o.isSome then 1 else 0) % 256)
    (value : read8 ps (i + 1) = o.getD 0 % 256) (small : ∀ p ∈ o, p ≤ limit) (fits : limit < 256) : readOptional ps i limit = some o :=
  readOptional_eq_some_iff.2 ⟨presence.trans (presence_mod o), value.trans (getD_mod small fits), small⟩

theorem orderCode_lt (o : ByteOrder) : orderCode o < 256 := by cases o <;> decide

theorem kindCode_lt (k : MeasureKind) : kindCode k < 256 := by cases k <;> decide

/-- A layout in range packed is read back. -/
theorem readLayout_layoutBytes (n : Nat) {y : Layout} (fits : LayoutInRange y) : readLayout (layoutBytes n y) = some y := by
  obtain ⟨id, seq, measure, temperature, flags, lid, tilt, restart, shatter⟩ := fits
  have bytes := read8_layoutBytes n y
  generalize layoutBytes n y = ps at bytes
  have idOffset : readUpTo ps 1 63 = some y.idOffset := readUpTo_eq_some_iff.2 ⟨(bytes _).trans (Nat.mod_eq_of_lt (Nat.lt_of_le_of_lt id (by decide))), id⟩
  have idOrder : read8 ps 2 = orderCode y.idOrder := (bytes _).trans <| Nat.mod_eq_of_lt (orderCode_lt _)
  have seqOffset : readUpTo ps 3 63 = some y.seqOffset := readUpTo_eq_some_iff.2 ⟨(bytes _).trans (Nat.mod_eq_of_lt (Nat.lt_of_le_of_lt seq (by decide))), seq⟩
  have seqOrder : read8 ps 4 = orderCode y.seqOrder := (bytes _).trans <| Nat.mod_eq_of_lt (orderCode_lt _)
  have measureOffset : readUpTo ps 5 63 = some y.measureOffset :=
    readUpTo_eq_some_iff.2 ⟨(bytes _).trans (Nat.mod_eq_of_lt (Nat.lt_of_le_of_lt measure (by decide))), measure⟩
  have measureOrder : read8 ps 6 = orderCode y.measureOrder := (bytes _).trans <| Nat.mod_eq_of_lt (orderCode_lt _)
  have kind : read8 ps 7 = kindCode y.kind := (bytes _).trans <| Nat.mod_eq_of_lt (kindCode_lt _)
  have temperature : readOptional ps 8 63 = some y.temperature :=
    readOptional_layoutBytes (bytes 8) (bytes 9) temperature (by decide)
  have flags : readOptional ps 10 63 = some y.flags := readOptional_layoutBytes (bytes 10) (bytes 11) flags (by decide)
  have lid : readOptional ps 12 7 = some y.lid := readOptional_layoutBytes (bytes 12) (bytes 13) lid (by decide)
  have tilt : readOptional ps 14 7 = some y.tilt := readOptional_layoutBytes (bytes 14) (bytes 15) tilt (by decide)
  have restart : readOptional ps 16 7 = some y.restart :=
    readOptional_layoutBytes (bytes 16) (bytes 17) restart (by decide)
  have shatter : readOptional ps 18 7 = some y.shatter :=
    readOptional_layoutBytes (bytes 18) (bytes 19) shatter (by decide)
  unfold readLayout
  rw [idOffset, idOrder, orderOf_orderCode, seqOffset, seqOrder, orderOf_orderCode, measureOffset, measureOrder, orderOf_orderCode, kind,
    kindOf_kindCode, temperature, flags, lid, tilt, restart, shatter]
  rfl

theorem Layout.minLength_le_iff (y : Layout) (n : Nat) : y.minLength ≤ n + 2 ↔ ∀ e ∈ y.fieldEnds, e ≤ n := by
  have largest : ∀ (l : List Nat) (a : Nat), l.foldl max a ≤ n ↔ a ≤ n ∧ ∀ e ∈ l, e ≤ n := by
    intro l
    induction l with
    | nil => simp
    | cons e l ih => intro a; rw [List.foldl_cons, ih, max_le_iff, List.forall_mem_cons, and_assoc]
  rw [Layout.minLength, Nat.add_le_add_iff_right, largest]
  exact and_iff_right (Nat.zero_le n)

section
variable {s : State} {ps : List Byte}

theorem ownLoadLayout_of_unread (unread : readIndex ps 0 = none ∨ readLayout ps = none) : ownLoadLayout s ps = s.refuse .badParam := by
  unfold ownLoadLayout
  split
  next index layout => rw [index, layout] at unread; simp at unread
  next => rfl

theorem ownLoadLayout_of_read {n : Index16} {y : Layout} (index : readIndex ps 0 = some n) (layout : readLayout ps = some y) :
    ownLoadLayout s ps =
      if y.minLength ≤ 64 then
        { state := { s with classifier := { s.classifier with layouts := s.classifier.layouts.set n y } }, status := .ok, results := [] }
      else s.refuse .badParam := by
  unfold ownLoadLayout
  rw [index, layout]

end

/-- Settles O50. -/
theorem loadFilterAndLayoutReplaceTheEntry : Obligations.LoadFilterAndLayoutReplaceTheEntry := by
  refine ⟨fun s q f asks small => ⟨fun n params => ?_, fun n big fits params => ?_⟩, fun s q y asks range => ⟨fun n params => ?_, fun n big fits params => ?_⟩⟩
  · intro c fits
    have taken := serve_of_requests ownLoadFilter asks (exactly_of_length (n := 12) (params ▸ filterBytes_length))
    have number : read8 q.params 0 = n.val := params ▸ read8_filterBytes_number (by omega)
    have chains : c.chainsFit = true ↔ fits := c.chainsFit_iff
    by_cases far : 63 < f.offset
    · refine ⟨fun near => absurd far (Nat.not_lt.2 near), fun _ => ?_⟩
      have unread : readFilter q.params = none := by
        cases read : readFilter q.params with
        | none => rfl
        | some g =>
          obtain ⟨-, near, -⟩ := readFilter_ranges read
          have byte : read8 q.params 2 = f.offset := by rw [params]; exact Nat.mod_eq_of_lt small
          omega
      rw [ownLoadFilter_of_unread (.inr unread), number] at taken
      exact taken
    · have read : readFilter q.params = some f := by rw [params]; exact readFilter_filterBytes (Nat.not_lt.1 far)
      refine ⟨fun _ ends fit => ?_, fun bad => ?_⟩
      · rw [ownLoadFilter_of_fits (s := s.dropRequest) (readIndex_of_eq number) read ends (chains.2 fit), number] at taken
        exact taken
      · have unfit : (n.val = 15 ∧ f.cascade = true) ∨ c.chainsFit = false :=
          (bad.resolve_left far).imp_right fun no => Bool.eq_false_iff.2 fun fit => no (chains.1 fit)
        rw [ownLoadFilter_of_unfit (s := s.dropRequest) (readIndex_of_eq number) read unfit, number] at taken
        exact taken
  · have taken := serve_of_requests ownLoadFilter asks (exactly_of_length (n := 12) (params ▸ filterBytes_length))
    have number : read8 q.params 0 = n := params ▸ read8_filterBytes_number fits
    rw [ownLoadFilter_of_unread (.inl (readIndex_of_gt (number.symm ▸ big))), number] at taken
    exact taken
  · intro ends
    have long : exactly 20 q.params = true := exactly_of_length (params ▸ layoutBytes_length _ y)
    have number : read8 q.params 0 = n.val := params ▸ read8_layoutBytes_number (by omega) y
    have read := ownLoadLayout_of_read (s := s.dropRequest) (readIndex_of_eq number) (params ▸ readLayout_layoutBytes n.val range)
    have fits : y.minLength ≤ 64 ↔ ∀ e ∈ ends, e ≤ 62 := y.minLength_le_iff 62
    refine ⟨fun short => ?_, fun ⟨e, mem, far⟩ => ?_⟩
    · have taken := serve_of_requests ownLoadLayout asks long
      rw [read, if_pos (fits.2 fun e mem => by have := short e mem; omega)] at taken
      exact taken
    · exact serve_of_refused asks long (read.trans (if_neg fun short => by have := fits.1 short e mem; omega))
  · have number : read8 q.params 0 = n := params ▸ read8_layoutBytes_number fits y
    exact serve_of_refused asks (exactly_of_length (params ▸ layoutBytes_length n y))
      (ownLoadLayout_of_unread (.inl (readIndex_of_gt (number.symm ▸ big))))

/-! ### LOAD_CLASS and READ_CLASS (R73) -/

/-- The ranges of 5.1. -/
structure ClassDesc.Ranges (c : ClassDesc) : Prop where
  ringLength : c.ringLength = 4 ∨ c.ringLength = 8 ∨ c.ringLength = 16
  kernelStart : c.kernelStart ≤ 127
  kernelLength : 1 ≤ c.kernelLength ∧ c.kernelLength ≤ 16
  maxRise : 1 ≤ c.maxRise ∧ c.maxRise ≤ 1000
  collectDrop : 1 ≤ c.collectDrop ∧ c.collectDrop ≤ 1000
  collectFloor : c.collectFloor ≤ 1000
  nearOn : 1 ≤ c.nearOn ∧ c.nearOn ≤ 999
  fullOn : 2 ≤ c.fullOn ∧ c.fullOn ≤ 1000
  hysteresis : c.hysteresis ≤ 200
  nC : 1 ≤ c.nC ∧ c.nC ≤ 16
  kC : 1 ≤ c.kC ∧ c.kC ≤ 16
  minDistance : c.minDistance ≤ 65534
  maxDistance : 1 ≤ c.maxDistance ∧ c.maxDistance ≤ 65535
  reportInterval : 60 ≤ c.reportInterval ∧ c.reportInterval ≤ 86400
  lateCount : 1 ≤ c.lateCount ∧ c.lateCount ≤ 31
  silentCount : 2 ≤ c.silentCount ∧ c.silentCount ≤ 63
  recoverCount : 1 ≤ c.recoverCount ∧ c.recoverCount ≤ 15
  rxDelay : 100 ≤ c.rxDelay ∧ c.rxDelay ≤ 5000
  windowLength : 10 ≤ c.windowLength ∧ c.windowLength ≤ 1000
  maxAttempts : 1 ≤ c.maxAttempts ∧ c.maxAttempts ≤ 7
  heatThreshold : (-40 ≤ c.heatThreshold ∧ c.heatThreshold ≤ 125) ∨ c.heatThreshold = 127

theorem ClassDesc.ranges_of_inRange {c : ClassDesc} (h : c.inRange = true) : c.Ranges := by
  simp only [ClassDesc.inRange, Bool.and_eq_true, Bool.or_eq_true, decide_eq_true_eq, beq_iff_eq, and_assoc] at h
  obtain ⟨h1, h2, h3, h4, h5, h6, h7, h8, h9, h10, h11, h12, h13, h14, h15, h16, h17, h18, h19, h20, h21, h22, h23, h24, h25, h26, h27, h28,
    h29, h30, h31, h32, h33, h34, h35, h36⟩ := h
  exact ⟨or_assoc.1 h1, h2, ⟨h3, h4⟩, ⟨h5, h6⟩, ⟨h7, h8⟩, h9, ⟨h10, h11⟩, ⟨h12, h13⟩, h14, ⟨h15, h16⟩, ⟨h17, h18⟩, h19, ⟨h20, h21⟩, ⟨h22, h23⟩,
    ⟨h24, h25⟩, ⟨h26, h27⟩, ⟨h28, h29⟩, ⟨h30, h31⟩, ⟨h32, h33⟩, ⟨h34, h35⟩, h36⟩

/-- The numbers that the parameter bytes of LOAD_CLASS carry, byte by byte. -/
def classNumbers (n : Nat) (c : ClassDesc) : List Nat :=
  [n, c.curvePage.val, c.ringLength, c.kernelStart, c.kernelLength, if c.median then 1 else 0, c.maxRise / 256, c.maxRise,
    c.collectDrop / 256, c.collectDrop, c.collectFloor / 256, c.collectFloor, c.nearOn / 256, c.nearOn, c.fullOn / 256, c.fullOn,
    c.hysteresis, c.nC, c.kC, c.minDistance / 256, c.minDistance, c.maxDistance / 256, c.maxDistance,
    c.reportInterval / 16777216, c.reportInterval / 65536, c.reportInterval / 256, c.reportInterval,
    c.lateCount, c.silentCount, c.recoverCount, if c.reMeasure then 1 else 0, c.rxDelay / 256, c.rxDelay,
    c.windowLength / 256, c.windowLength, c.maxAttempts, (BitVec.ofInt 8 c.heatThreshold).toNat, if c.lateNotice then 1 else 0]

theorem pack8_map (n : Nat) : pack8 n = [n].map (BitVec.ofNat 8) := rfl

theorem pack16_map (n : Nat) : pack16 n = [n / 256, n].map (BitVec.ofNat 8) := rfl

theorem pack32_map (n : Nat) : pack32 n = [n / 16777216, n / 65536, n / 256, n].map (BitVec.ofNat 8) := rfl

theorem packFlag_map (b : Bool) : packFlag b = [if b then 1 else 0].map (BitVec.ofNat 8) := rfl

theorem packInt8_map (h : Int) : packInt8 h = [(BitVec.ofInt 8 h).toNat].map (BitVec.ofNat 8) := rfl

theorem classBytes_eq (n : Nat) (c : ClassDesc) : pack8 n ++ c.packFields = (classNumbers n c).map (BitVec.ofNat 8) := by
  delta ClassDesc.packFields
  simp only [pack8_map, pack16_map, pack32_map, packFlag_map, packInt8_map, ← List.map_append]
  exact congrArg (List.map (BitVec.ofNat 8)) (by simp only [classNumbers, List.cons_append, List.nil_append])

theorem classBytes_length (n : Nat) (c : ClassDesc) : (pack8 n ++ c.packFields).length = 38 := by
  rw [classBytes_eq, List.length_map]; rfl

theorem read8_of_byte {ps : List Byte} {i n : Nat} (byte : read8 ps i = n % 256) (fits : n < 256) : read8 ps i = n :=
  byte.trans (Nat.mod_eq_of_lt fits)

theorem read16_of_bytes {ps : List Byte} {i n : Nat} (high : read8 ps i = n / 256 % 256) (low : read8 ps (i + 1) = n % 256)
    (fits : n < 65536) : read16 ps i = n := by
  rw [read16, high, low]; omega

theorem read32_of_bytes {ps : List Byte} {i n : Nat} (b3 : read8 ps i = n / 16777216 % 256) (b2 : read8 ps (i + 1) = n / 65536 % 256)
    (b1 : read8 ps (i + 2) = n / 256 % 256) (b0 : read8 ps (i + 3) = n % 256) (fits : n < 4294967296) : read32 ps i = n := by
  rw [read32, read16, read16, b3, b2, b1, b0]; omega

theorem readSwitch_of_byte {ps : List Byte} {i : Nat} {b : Bool} (byte : read8 ps i = (if b then 1 else 0) % 256) : readSwitch ps i = some b :=
  readSwitch_eq_some_iff.2 (byte.trans (by cases b <;> rfl))

theorem readInt8_of_byte {ps : List Byte} {i : Nat} {h : Int} (byte : read8 ps i = (BitVec.ofInt 8 h).toNat % 256)
    (low : -128 ≤ h) (high : h ≤ 127) : readInt8 ps i = h := by
  rw [readInt8, byte, Nat.mod_eq_of_lt (BitVec.ofInt 8 h).isLt, BitVec.ofNat_toNat, BitVec.setWidth_eq, BitVec.toInt_ofInt]
  exact Int.bmod_eq_of_le (by omega) (by omega)

/-- A descriptor in range packed is read back, loaded. -/
theorem readClass_classBytes (n : Nat) {c : ClassDesc} (ranges : c.Ranges) :
    readClass (pack8 n ++ c.packFields) = some { c with loaded := true } := by
  have bytes : ∀ i, read8 (pack8 n ++ c.packFields) i = (classNumbers n c).getD i 0 % 256 := fun i => by
    rw [classBytes_eq, read8_map_ofNat]
  generalize pack8 n ++ c.packFields = ps at bytes
  obtain ⟨h1, h2, h3, h4, h5, h6, h7, h8, h9, h10, h11, h12, h13, h14, h15, h16, h17, h18, h19, h20, h21⟩ := ranges
  have curvePage : readIndex ps 1 = some c.curvePage := readIndex_of_eq (read8_of_byte (bytes 1) (c.curvePage.isLt.trans (by decide)))
  have ringLength : read8 ps 2 = c.ringLength := read8_of_byte (bytes 2) (by omega)
  have kernelStart : read8 ps 3 = c.kernelStart := read8_of_byte (bytes 3) (h2.trans_lt (by decide))
  have kernelLength : read8 ps 4 = c.kernelLength := read8_of_byte (bytes 4) (h3.2.trans_lt (by decide))
  have median : readSwitch ps 5 = some c.median := readSwitch_of_byte (bytes 5)
  have maxRise : read16 ps 6 = c.maxRise := read16_of_bytes (bytes 6) (bytes 7) (h4.2.trans_lt (by decide))
  have collectDrop : read16 ps 8 = c.collectDrop := read16_of_bytes (bytes 8) (bytes 9) (h5.2.trans_lt (by decide))
  have collectFloor : read16 ps 10 = c.collectFloor := read16_of_bytes (bytes 10) (bytes 11) (h6.trans_lt (by decide))
  have nearOn : read16 ps 12 = c.nearOn := read16_of_bytes (bytes 12) (bytes 13) (h7.2.trans_lt (by decide))
  have fullOn : read16 ps 14 = c.fullOn := read16_of_bytes (bytes 14) (bytes 15) (h8.2.trans_lt (by decide))
  have hysteresis : read8 ps 16 = c.hysteresis := read8_of_byte (bytes 16) (h9.trans_lt (by decide))
  have nC : read8 ps 17 = c.nC := read8_of_byte (bytes 17) (h10.2.trans_lt (by decide))
  have kC : read8 ps 18 = c.kC := read8_of_byte (bytes 18) (h11.2.trans_lt (by decide))
  have minDistance : read16 ps 19 = c.minDistance := read16_of_bytes (bytes 19) (bytes 20) (h12.trans_lt (by decide))
  have maxDistance : read16 ps 21 = c.maxDistance := read16_of_bytes (bytes 21) (bytes 22) (h13.2.trans_lt (by decide))
  have reportInterval : read32 ps 23 = c.reportInterval := read32_of_bytes (bytes 23) (bytes 24) (bytes 25) (bytes 26) (h14.2.trans_lt (by decide))
  have lateCount : read8 ps 27 = c.lateCount := read8_of_byte (bytes 27) (h15.2.trans_lt (by decide))
  have silentCount : read8 ps 28 = c.silentCount := read8_of_byte (bytes 28) (h16.2.trans_lt (by decide))
  have recoverCount : read8 ps 29 = c.recoverCount := read8_of_byte (bytes 29) (h17.2.trans_lt (by decide))
  have reMeasure : readSwitch ps 30 = some c.reMeasure := readSwitch_of_byte (bytes 30)
  have rxDelay : read16 ps 31 = c.rxDelay := read16_of_bytes (bytes 31) (bytes 32) (h18.2.trans_lt (by decide))
  have windowLength : read16 ps 33 = c.windowLength := read16_of_bytes (bytes 33) (bytes 34) (h19.2.trans_lt (by decide))
  have maxAttempts : read8 ps 35 = c.maxAttempts := read8_of_byte (bytes 35) (h20.2.trans_lt (by decide))
  have heatThreshold : readInt8 ps 36 = c.heatThreshold := readInt8_of_byte (bytes 36) (by omega) (by omega)
  have lateNotice : readSwitch ps 37 = some c.lateNotice := readSwitch_of_byte (bytes 37)
  unfold readClass
  rw [curvePage, median, reMeasure, lateNotice, ringLength, kernelStart, kernelLength, maxRise, collectDrop, collectFloor, nearOn, fullOn,
    hysteresis, nC, kC, minDistance, maxDistance, reportInterval, lateCount, silentCount, recoverCount, rxDelay, windowLength, maxAttempts,
    heatThreshold]
  rfl

section
variable {s : State} {ps : List Byte}

theorem ownLoadClass_of_bad (bad : ∀ n c, readIndex ps 0 = some n → readClass ps = some c → ¬(c.inRange = true ∧ c.related = true)) :
    ownLoadClass s ps = s.refuse .badParam := by
  unfold ownLoadClass
  split
  next n c index read => exact if_neg (bad n c index read)
  next => rfl

theorem ownLoadClass_of_fits {n : Index16} {c : ClassDesc} (index : readIndex ps 0 = some n) (read : readClass ps = some c)
    (fits : c.inRange = true ∧ c.related = true) : ownLoadClass s ps =
      { state := { s with stores := { s.stores with classes := s.stores.classes.set n c } }, status := .ok, results := [] } := by
  unfold ownLoadClass
  rw [index, read]
  exact if_pos fits

theorem ownReadClass_of_index {n : Index16} (index : readIndex ps 0 = some n) :
    ownReadClass s ps = { state := s, status := .ok, results := (s.classDesc n).pack } := by
  unfold ownReadClass; rw [index]

theorem ownReadClass_of_bad (bad : readIndex ps 0 = none) : ownReadClass s ps = s.refuse .badParam := by
  unfold ownReadClass; rw [bad]

end

/-- Settles O48. -/
theorem loadClassStoresWhatReadClassReturns : Obligations.LoadClassStoresWhatReadClassReturns := by
  intro s q c inRange
  have ranges := ClassDesc.ranges_of_inRange inRange
  refine ⟨fun n asks params related => ?_, fun n fits asks params bad => ?_, fun n asks params held => ?_, fun n big fits asks params => ?_⟩
  · have number : read8 q.params 0 = n.val := by rw [params]; exact read8_pack8 (by omega) _
    have taken := serve_of_requests ownLoadClass asks (exactly_of_length (params ▸ classBytes_length _ c))
    rw [ownLoadClass_of_fits (s := s.dropRequest) (c := { c with loaded := true }) (readIndex_of_eq number)
      (by rw [params]; exact readClass_classBytes _ ranges) ⟨inRange, related⟩] at taken
    exact taken
  · have number : read8 q.params 0 = n := by rw [params]; exact read8_pack8 fits _
    refine serve_of_refused asks (exactly_of_length (params ▸ classBytes_length _ c)) (ownLoadClass_of_bad fun m d index read good => ?_)
    rcases bad with big | unrelated
    · rw [readIndex_of_gt (number.symm ▸ big)] at index; cases index
    · rw [params, readClass_classBytes _ ranges] at read
      obtain rfl := Option.some.inj read
      have related : c.related = true := good.2
      rw [unrelated] at related
      cases related
  · have number : read8 q.params 0 = n.val := by rw [params]; exact read8_pack8 (by omega) []
    have taken := serve_of_requests ownReadClass asks (exactly_of_length (n := 1) (by rw [params]; rfl))
    rw [ownReadClass_of_index (s := s.dropRequest) (readIndex_of_eq number)] at taken
    rw [← held]
    exact taken
  · have number : read8 q.params 0 = n := by rw [params]; exact read8_pack8 fits []
    exact serve_of_refused asks (exactly_of_length (n := 1) (by rw [params]; rfl)) (ownReadClass_of_bad (readIndex_of_gt (number.symm ▸ big)))

end Sys2Proof.Machine

/-! PROOF. Parameter bytes outside their ranges (O47). -/

namespace Sys2Proof.Machine

open Sys2Proof.Safety

/-! ### Keys and switches out of range (O47) -/

section
variable {s : State} {ps : List Byte}

theorem readKey_of_bad (bad : 1 < read8 ps 0 ∨ (read8 ps 0 = 1 ∧ 8191 < read32 ps 1)) : readKey ps = none := by
  unfold readKey
  rcases bad with big | ⟨slot, big⟩
  · rw [if_neg (by omega), if_neg (by omega)]
  · rw [if_neg (by omega), if_pos slot, slotOf_none.2 (by omega)]; rfl

theorem ownRetire_of_badKey (bad : readKey ps = none) : ownRetire s ps = s.refuse .badParam := by
  unfold ownRetire; rw [bad]

theorem ownConfirmVisit_of_badKey (bad : readKey ps = none) : ownConfirmVisit s ps = s.refuse .badParam := by
  unfold ownConfirmVisit; rw [bad]

theorem ownSetAdmin_of_badKey (bad : readKey ps = none) : ownSetAdmin s ps = s.refuse .badParam := by
  unfold ownSetAdmin; rw [bad]

theorem ownReadBin_of_badKey (bad : readKey ps = none) : ownReadBin s ps = s.refuse .badParam := by
  unfold ownReadBin; rw [bad]

theorem ownReadBin_of_badSwitch (bad : readSwitch ps 5 = none) : ownReadBin s ps = s.refuse .badParam := by
  unfold ownReadBin; rw [bad]
  cases readKey ps <;> rfl

theorem ownReadDiscovery_of_badSwitch (bad : readSwitch ps 0 = none) : ownReadDiscovery s ps = s.refuse .badParam := by
  unfold ownReadDiscovery; rw [bad]

theorem ownReadCounters_of_badSwitch (bad : readSwitch ps 2 = none) : ownReadCounters s ps = s.refuse .badParam := by
  unfold ownReadCounters; rw [bad]
  cases groupOf (read16 ps 0) <;> rfl

end

/-! ### Table fields out of range (O47) -/

theorem orderOf_le {n : Nat} {o : ByteOrder} (h : orderOf n = some o) : n ≤ 1 := by
  unfold orderOf at h
  split at h
  case h_3 => cases h
  all_goals omega

theorem kindOf_le {n : Nat} {k : MeasureKind} (h : kindOf n = some k) : n ≤ 1 := by
  unfold kindOf at h
  split at h
  case h_3 => cases h
  all_goals omega

theorem readUpTo_le {ps : List Byte} {i limit n : Nat} (h : readUpTo ps i limit = some n) : read8 ps i ≤ limit := by
  obtain ⟨rfl, small⟩ := readUpTo_eq_some_iff.1 h
  exact small

/-- A field that may be absent has bytes in range: its presence byte, its value byte, and a value of 0 where it is absent. -/
def OptionalFits (ps : List Byte) (i limit : Nat) : Prop :=
  read8 ps i ≤ 1 ∧ (read8 ps i = 0 → read8 ps (i + 1) = 0) ∧ read8 ps (i + 1) ≤ limit

theorem optionalFits_of_some {ps : List Byte} {i limit : Nat} {o : Option Nat} (h : readOptional ps i limit = some o) :
    OptionalFits ps i limit := by
  obtain ⟨presence, value, small⟩ := readOptional_eq_some_iff.1 h
  rw [OptionalFits, presence, value]
  cases o with
  | none => exact ⟨Nat.zero_le _, fun _ => rfl, Nat.zero_le _⟩
  | some n => exact ⟨le_rfl, fun absent => absurd absent Nat.one_ne_zero, small n rfl⟩

/-- A layout is read only from fields in their ranges and sets (R29). -/
theorem readLayout_ranges {ps : List Byte} {y : Layout} (h : readLayout ps = some y) :
    (read8 ps 1 ≤ 63 ∧ read8 ps 2 ≤ 1 ∧ read8 ps 3 ≤ 63 ∧ read8 ps 4 ≤ 1 ∧ read8 ps 5 ≤ 63 ∧ read8 ps 6 ≤ 1 ∧ read8 ps 7 ≤ 1) ∧
      ∀ k ∈ [8, 10, 12, 14, 16, 18], OptionalFits ps k (if k < 12 then 63 else 7) := by
  obtain ⟨_, idOffset, h⟩ := Option.bind_eq_some_iff.1 h
  obtain ⟨_, idOrder, h⟩ := Option.bind_eq_some_iff.1 h
  obtain ⟨_, seqOffset, h⟩ := Option.bind_eq_some_iff.1 h
  obtain ⟨_, seqOrder, h⟩ := Option.bind_eq_some_iff.1 h
  obtain ⟨_, measureOffset, h⟩ := Option.bind_eq_some_iff.1 h
  obtain ⟨_, measureOrder, h⟩ := Option.bind_eq_some_iff.1 h
  obtain ⟨_, kind, h⟩ := Option.bind_eq_some_iff.1 h
  obtain ⟨_, temperature, h⟩ := Option.bind_eq_some_iff.1 h
  obtain ⟨_, flags, h⟩ := Option.bind_eq_some_iff.1 h
  obtain ⟨_, lid, h⟩ := Option.bind_eq_some_iff.1 h
  obtain ⟨_, tilt, h⟩ := Option.bind_eq_some_iff.1 h
  obtain ⟨_, restart, h⟩ := Option.bind_eq_some_iff.1 h
  obtain ⟨_, shatter, -⟩ := Option.bind_eq_some_iff.1 h
  refine ⟨⟨readUpTo_le idOffset, orderOf_le idOrder, readUpTo_le seqOffset, orderOf_le seqOrder, readUpTo_le measureOffset,
    orderOf_le measureOrder, kindOf_le kind⟩, ?_⟩
  simp only [List.forall_mem_cons]
  exact ⟨optionalFits_of_some temperature, optionalFits_of_some flags, optionalFits_of_some lid, optionalFits_of_some tilt,
    optionalFits_of_some restart, optionalFits_of_some shatter, fun k none_ => by cases none_⟩

/-- The bytes of a LOAD_CLASS that lie outside the ranges of 5.1. -/
def ClassBytesBad (ps : List Byte) : Prop :=
  15 < read8 ps 0 ∨ 15 < read8 ps 1 ∨ read8 ps 2 ∉ [4, 8, 16] ∨ 127 < read8 ps 3 ∨ read8 ps 4 = 0 ∨ 16 < read8 ps 4 ∨ 1 < read8 ps 5 ∨
    read16 ps 6 = 0 ∨ 1000 < read16 ps 6 ∨ read16 ps 8 = 0 ∨ 1000 < read16 ps 8 ∨ 1000 < read16 ps 10 ∨ read16 ps 12 = 0 ∨
    999 < read16 ps 12 ∨ read16 ps 14 < 2 ∨ 1000 < read16 ps 14 ∨ 200 < read8 ps 16 ∨ read8 ps 17 = 0 ∨ 16 < read8 ps 17 ∨
    read8 ps 18 = 0 ∨ 16 < read8 ps 18 ∨ 65534 < read16 ps 19 ∨ read16 ps 21 = 0 ∨ read32 ps 23 < 60 ∨ 86400 < read32 ps 23 ∨
    read8 ps 27 = 0 ∨ 31 < read8 ps 27 ∨ read8 ps 28 < 2 ∨ 63 < read8 ps 28 ∨ read8 ps 29 = 0 ∨ 15 < read8 ps 29 ∨ 1 < read8 ps 30 ∨
    read16 ps 31 < 100 ∨ 5000 < read16 ps 31 ∨ read16 ps 33 < 10 ∨ 1000 < read16 ps 33 ∨ read8 ps 35 = 0 ∨ 7 < read8 ps 35 ∨
    (125 < read8 ps 36 ∧ read8 ps 36 < 216 ∧ read8 ps 36 ≠ 127) ∨ 1 < read8 ps 37

theorem classBytes_in_range {ps : List Byte} {n : Index16} {c : ClassDesc} (index : readIndex ps 0 = some n) (read : readClass ps = some c)
    (inRange : c.inRange = true) : ¬ClassBytesBad ps := by
  have ranges := ClassDesc.ranges_of_inRange inRange
  simp only [readClass, Option.bind_eq_bind, Option.bind_eq_some_iff] at read
  obtain ⟨_, page, _, median, _, reMeasure, _, lateNotice, whole⟩ := read
  obtain rfl := Option.some.inj whole
  have h0 := readIndex_le index
  have h1 := readIndex_le page
  have h5 := readSwitch_le median
  have h30 := readSwitch_le reMeasure
  have h37 := readSwitch_le lateNotice
  obtain ⟨a1, a2, a3, a4, a5, a6, a7, a8, a9, a10, a11, a12, a13, a14, a15, a16, a17, a18, a19, a20, heat⟩ := ranges
  dsimp only at a1 a2 a3 a4 a5 a6 a7 a8 a9 a10 a11 a12 a13 a14 a15 a16 a17 a18 a19 a20 heat
  have heatByte : ¬(125 < read8 ps 36 ∧ read8 ps 36 < 216 ∧ read8 ps 36 ≠ 127) := by
    rw [readInt8_eq] at heat
    split at heat <;> omega
  simp only [ClassBytesBad, List.mem_cons, List.not_mem_nil, or_false]
  omega

/-- Settles O47. -/
theorem parametersOutOfRangeAreRefused : Obligations.ParametersOutOfRangeAreRefused := by
  intro s q b n16 n32 badKey
  refine ⟨fun row mem => ?_, fun asks long bad => ?_, fun asks long bad => ?_, fun asks long bad => ?_, fun asks long bad => ?_,
    fun asks long bad => ?_, fun asks long bad => ?_⟩
  · simp only [List.mem_cons, List.not_mem_nil, or_false] at mem
    rcases mem with rfl | rfl | rfl | rfl
    all_goals intro asks long bad
    · exact serve_of_refused asks (exactly_of_length long) (ownRetire_of_badKey (readKey_of_bad bad))
    · exact serve_of_refused asks (exactly_of_length long) (ownConfirmVisit_of_badKey (readKey_of_bad bad))
    · exact serve_of_refused asks (exactly_of_length long) (ownSetAdmin_of_badKey (readKey_of_bad bad))
    · exact serve_of_refused asks (exactly_of_length long) (ownReadBin_of_badKey (readKey_of_bad bad))
  · exact serve_of_refused asks (exactly_of_length long) (ownReadBin_of_badSwitch (readSwitch_of_gt bad))
  · exact serve_of_refused asks (exactly_of_length long) (ownReadDiscovery_of_badSwitch (readSwitch_of_gt bad))
  · exact serve_of_refused asks (exactly_of_length long) (ownReadCounters_of_badSwitch (readSwitch_of_gt bad))
  · have unread : readIndex q.params 0 = none ∨ readFilter q.params = none := by
      rcases bad with number | bad
      · exact .inl (readIndex_of_gt number)
      · refine .inr (Option.eq_none_iff_forall_ne_some.2 fun f read => ?_)
        have ranges := readFilter_ranges read
        change 1 < read8 q.params 1 ∨ 63 < read8 q.params 2 ∨ 1 < read8 q.params 7 ∨ 1 < read8 q.params 9 ∨ 3 < read8 q.params 10 ∨
          15 < read8 q.params 11 at bad
        omega
    have taken := serve_of_requests ownLoadFilter asks (exactly_of_length long)
    rw [ownLoadFilter_of_unread unread] at taken
    exact taken
  · have unread : readIndex q.params 0 = none ∨ readLayout q.params = none := by
      rcases bad with number | bad
      · exact .inl (readIndex_of_gt number)
      · refine .inr (Option.eq_none_iff_forall_ne_some.2 fun y read => ?_)
        obtain ⟨fixed, optional⟩ := readLayout_ranges read
        change 63 < read8 q.params 1 ∨ 1 < read8 q.params 2 ∨ 63 < read8 q.params 3 ∨ 1 < read8 q.params 4 ∨ 63 < read8 q.params 5 ∨
          1 < read8 q.params 6 ∨ 1 < read8 q.params 7 ∨ ∃ k ∈ [8, 10, 12, 14, 16, 18], 1 < read8 q.params k ∨
            (read8 q.params k = 0 ∧ read8 q.params (k + 1) ≠ 0) ∨ (if k < 12 then 63 else 7) < read8 q.params (k + 1) at bad
        rcases bad with far | code | far | code | far | code | code | ⟨k, mem, presence | ⟨gone, value⟩ | far⟩
        any_goals omega
        · exact absurd presence (Nat.not_lt.2 (optional k mem).1)
        · exact value ((optional k mem).2.1 gone)
        · exact absurd far (Nat.not_lt.2 (optional k mem).2.2)
    exact serve_of_refused asks (exactly_of_length long) (ownLoadLayout_of_unread unread)
  · have bad : ClassBytesBad q.params := bad
    exact serve_of_refused asks (exactly_of_length long)
      (ownLoadClass_of_bad fun n c index read good => classBytes_in_range index read good.1 bad)

end Sys2Proof.Machine

/-! PROOF. The reads of the bins and of the Visit List (O51, O52). -/

namespace Sys2Proof.Machine

open Sys2Proof.Safety

/-! ### READ_BIN (R92, R175) -/

theorem Ring.stored_length (r : Ring) : r.stored.length = r.occupancy := by simp [Ring.stored]

/-- The 74 fixed bytes of a READ_BIN record, 2 for each stored value and 1 for each candidate. -/
theorem packBinRecord_length (i : Slot) (r : BinRecord) :
    (packBinRecord i r).length = 74 + 2 * r.ring.occupancy + r.candidates.length := by
  have values : (r.ring.stored.map pack16).flatten.length = 2 * r.ring.occupancy := by
    rw [flatten_map_length (n := 2) pack16 pack16_length, Ring.stored_length]
  have candidates : (r.candidates.map fun b => pack8 b.code).flatten.length = r.candidates.length := by
    rw [flatten_map_length (n := 1) (fun b : Band => pack8 b.code) fun _ => rfl, Nat.one_mul]
  have rssi := packOpt_length 2 packInt16 packInt16_length r.bestRssi
  have estimate := packOpt_length 2 pack16 pack16_length r.estimate
  have sequence := packOpt_length 2 (fun n => pack16 n.toNat) (fun n => pack16_length n.toNat) r.lastSequence
  have arrival := packOpt_length 4 (fun n => pack32 n.toNat) (fun n => pack32_length n.toNat) r.lastArrival
  have links := packOpt_length 3 VisitLinks.pack (fun _ => rfl) r.links
  delta packBinRecord
  simp only [List.length_append, values, candidates, rssi, estimate, sequence, arrival, links, BinCounters.pack_length,
    pack8_length, pack16_length, pack32_length, packFlag_length]
  omega

section
variable {s : State} {ps : List Byte} {key : BinKey} {clear : Bool}

theorem ownReadBin_of_absent (reads : readKey ps = some key) (option : readSwitch ps 5 = some clear) (absent : s.resolve key = none) :
    ownReadBin s ps = s.refuse .notFound := by
  unfold ownReadBin
  rw [reads, option]
  dsimp only
  rw [absent]

theorem ownReadBin_of_bin (reads : readKey ps = some key) (option : readSwitch ps 5 = some clear) {i : Slot}
    (resolves : s.resolve key = some i) :
    ownReadBin s ps = { state := if clear then s.clearClamps i else s, status := .ok, results := packBinRecord i (s.record i) } := by
  unfold ownReadBin
  rw [reads, option]
  dsimp only
  rw [resolves]

end

/-! ### READ_BIN_RANGE (R176) -/

theorem rangeSlots_succ (start count : Nat) : rangeSlots start (count + 1) = rangeSlots start count ++ (slotOf (start + count)).toList := by
  rw [rangeSlots, List.range_succ, List.filterMap_append]
  cases found : slotOf (start + count) <;> simp [found, rangeSlots]

/-- The slots of a READ_BIN_RANGE are the numbers from the start that are below 8192. -/
theorem rangeSlots_val (start count : Nat) :
    (rangeSlots start count).map Fin.val = (List.range (min count (8192 - start))).map (start + ·) := by
  induction count with
  | zero => rw [Nat.zero_min]; rfl
  | succ n ih =>
    rw [rangeSlots_succ, List.map_append, ih]
    by_cases inside : start + n < 8192
    · rw [slotOf_eq_some inside, Nat.min_eq_left (by omega), Nat.min_eq_left (by omega), List.range_succ, List.map_append]
      rfl
    · rw [slotOf_none.2 (by omega), Nat.min_eq_right (by omega), Nat.min_eq_right (by omega)]
      exact List.append_nil _

theorem packRangeEntry_eq (i : Slot) (r : BinRecord) : packRangeEntry i r =
    pack16 i.val ++ packFlag (decide (r.admin ≠ .free)) ++ pack32 r.identifier.toNat ++ packOpt 2 pack16 r.estimate ++
      pack8 r.band.code ++ pack8 r.liveness.code := by
  rw [packRangeEntry]
  cases r.admin <;> rfl

/-- Settles O51: the record read is the one before the clear, and the slots of a range are those from the start that exist. -/
theorem readBinsReturnTheRecords : Obligations.ReadBinsReturnTheRecords := by
  refine ⟨fun s q key clear asks params => ?_, fun s q start count asks startFits countFits params => ?_⟩
  · have long : exactly 6 q.params = true := exactly_of_length (by rw [params, List.length_append, keyBytes_length]; rfl)
    have reads : readKey q.params = some key := params ▸ readKey_keyBytes key _
    have option : readSwitch q.params 5 = some clear := by
      rw [readSwitch_eq_some_iff, params, read8_keyBytes_five]
      exact read8_packFlag clear []
    refine ⟨fun absent => ?_, fun i names => ⟨packBinRecord_length i _, ?_⟩⟩
    · exact serve_of_refused asks long (ownReadBin_of_absent reads option (State.resolve_of_namesNone (s := s) absent))
    · have taken := serve_of_requests ownReadBin asks long
      rw [ownReadBin_of_bin (s := s.dropRequest) reads option (State.resolve_of_names (s := s) names)] at taken
      refine taken.trans (congrArg Host.Outcome.next ?_)
      cases clear <;> rfl
  · have long : exactly 3 q.params = true := exactly_of_length (params ▸ rfl)
    have startRead : read16 q.params 0 = start := params ▸ read16_pack16 startFits _
    have countRead : read8 q.params 2 = count := params ▸ Nat.mod_eq_of_lt countFits
    refine ⟨fun bad => ?_, fun inside some_ few => ⟨rangeSlots start count, rangeSlots_val start count, ?_⟩⟩
    · refine serve_of_refused asks long ?_
      rw [ownReadBinRange, startRead, countRead]
      exact if_pos bad
    · have taken := serve_of_requests ownReadBinRange asks long
      have good : ¬(8191 < start ∨ count = 0 ∨ 40 < count) := by omega
      rw [ownReadBinRange, startRead, countRead] at taken
      dsimp only at taken
      rw [if_neg good] at taken
      simp only [packRangeEntry_eq] at taken
      exact taken

/-! ### READ_VISIT_LIST (R111, R112) -/

theorem bandOrder_length (v : Vector (List Slot) 63) : (bandOrder v).length = listed v := by
  rw [bandOrder, listed, List.length_flatten, List.map_reverse, List.sum_reverse]

theorem visitTotal_eq {s : State} (sound : VisitListSound s) (sel : Selection) :
    s.visits.total sel = (s.visits.ordered sel).length := by
  obtain ⟨full, near⟩ := sound.counts
  cases sel with
  | full => exact full.trans (bandOrder_length _).symm
  | near => exact near.trans (bandOrder_length _).symm
  | both =>
    change s.visits.fullCount + s.visits.nearCount = (bandOrder s.visits.full ++ bandOrder s.visits.near).length
    rw [List.length_append, bandOrder_length, bandOrder_length, full, near]

/-- The members of a list whose ranks, counted from `a`, lie from `lo` up to `hi`: what is left after those before `lo`, cut at `hi`. -/
theorem filter_rank_eq_window {α : Type} (order : List α) (lo hi a : Nat) :
    ((List.range' a order.length).zip order).filter (fun e => decide (lo ≤ e.1 ∧ e.1 < hi)) =
      (((order.drop (lo - a)).take (hi - max lo a)).zipIdx (max lo a)).map fun e => (e.2, e.1) := by
  induction order generalizing a with
  | nil => simp
  | cons x rest ih =>
    rw [List.length_cons, List.range'_succ, List.zip_cons_cons, List.filter_cons, ih (a + 1)]
    by_cases before : a < lo
    · obtain ⟨k, gap⟩ : ∃ k, lo - a = k + 1 := ⟨lo - a - 1, by omega⟩
      rw [if_neg (by simp; omega), gap, List.drop_succ_cons, show lo - (a + 1) = k by omega, Nat.max_eq_left (by omega),
        Nat.max_eq_left (by omega)]
    rw [Nat.sub_eq_zero_of_le (by omega : lo ≤ a), Nat.sub_eq_zero_of_le (by omega : lo ≤ a + 1), Nat.max_eq_right (by omega),
      Nat.max_eq_right (by omega), List.drop_zero, List.drop_zero]
    by_cases inside : a < hi
    · obtain ⟨k, gap⟩ : ∃ k, hi - a = k + 1 := ⟨hi - a - 1, by omega⟩
      rw [if_pos (by simp; omega), gap, show hi - (a + 1) = k by omega]
      rfl
    · rw [if_neg (by simp; omega), Nat.sub_eq_zero_of_le (by omega : hi ≤ a), Nat.sub_eq_zero_of_le (by omega : hi ≤ a + 1)]
      rfl

/-- The members of a list with their ranks, from `start` and at most `maximum`. -/
def rankedWindow (order : List Slot) (start maximum : Nat) : List (Nat × Slot) :=
  ((List.range order.length).zip order).filter fun e => decide (start ≤ e.1 ∧ e.1 < start + maximum)

theorem rankedWindow_eq (order : List Slot) (start maximum : Nat) :
    rankedWindow order start maximum = (((order.drop start).take maximum).zipIdx start).map fun e => (e.2, e.1) := by
  rw [rankedWindow, List.range_eq_range', filter_rank_eq_window, Nat.max_eq_left (Nat.zero_le _), Nat.sub_zero, Nat.add_sub_cancel_left]

theorem rankedWindow_length (order : List Slot) (start maximum : Nat) :
    (rankedWindow order start maximum).length = min maximum (order.length - start) := by
  simp [rankedWindow_eq]

/-- The window of a read in a sound Visit List holds the ranks from the start, at most the maximum, of the selected order. -/
theorem State.packWindow_eq {s : State} (sound : VisitListSound s) (sel : Selection) (start maximum : Nat) :
    s.packWindow sel start maximum =
      pack16 s.visits.epoch.toNat ++ pack16 (s.visits.ordered sel).length ++
        pack8 (rankedWindow (s.visits.ordered sel) start maximum).length ++
        ((rankedWindow (s.visits.ordered sel) start maximum).map fun e => packVisitEntry e.1 e.2 (s.record e.2)).flatten := by
  have cut (l : List Slot) : l.take (min maximum l.length) = l.take maximum := by
    rw [← List.take_take, List.take_length]
  have entries : (((s.visits.ordered sel).drop start).take (min maximum ((s.visits.ordered sel).length - start))).zipIdx.map
        (fun e => packVisitEntry (start + e.2) e.1 (s.record e.1)) =
      (rankedWindow (s.visits.ordered sel) start maximum).map fun e => packVisitEntry e.1 e.2 (s.record e.2) := by
    rw [← List.length_drop, cut, rankedWindow_eq, List.map_map, List.zipIdx_eq_map_add (i := start), List.map_map]
    simp [Function.comp_def]
  rw [State.packWindow, visitTotal_eq sound, rankedWindow_length]
  exact congrArg (_ ++ List.flatten ·) entries

section
variable {s : State} {ps : List Byte}

theorem selectionOf_of_gt {n : Nat} (big : 2 < n) : selectionOf n = none := by
  unfold selectionOf
  split
  case h_4 => rfl
  all_goals omega

theorem ownReadVisitList_of_bad (bad : 2 < read8 ps 0 ∨ 8191 < read16 ps 1 ∨ read8 ps 3 = 0 ∨ 24 < read8 ps 3) :
    ownReadVisitList s ps = s.refuse .badParam := by
  unfold ownReadVisitList
  dsimp only
  split
  next => rfl
  next sel found =>
    refine if_pos (bad.resolve_left fun big => ?_)
    rw [selectionOf_of_gt big] at found
    cases found

theorem ownReadVisitList_of_good {sel : Selection} (found : selectionOf (read8 ps 0) = some sel)
    (good : ¬(8191 < read16 ps 1 ∨ read8 ps 3 = 0 ∨ 24 < read8 ps 3)) :
    ownReadVisitList s ps = { state := s, status := .ok, results := s.packWindow sel (read16 ps 1) (read8 ps 3) } := by
  unfold ownReadVisitList
  rw [found]
  exact if_neg good

end

/-- Settles O52. -/
theorem readVisitListReturnsTheWindow : Obligations.ReadVisitListReturnsTheWindow := by
  intro s q sel start maximum asks selFits startFits maximumFits params visits
  have long : exactly 4 q.params = true := exactly_of_length (params ▸ rfl)
  have selRead : read8 q.params 0 = sel := params ▸ Nat.mod_eq_of_lt selFits
  have startRead : read16 q.params 1 = start := params ▸ read16_pack16 startFits (pack8 maximum)
  have maximumRead : read8 q.params 3 = maximum := params ▸ Nat.mod_eq_of_lt maximumFits
  refine ⟨fun bad => ?_, fun inside some_ few => ?_⟩
  · refine serve_of_refused asks long (ownReadVisitList_of_bad ?_)
    rw [selRead, startRead, maximumRead]
    exact bad
  · intro full near order choice
    obtain ⟨c, code, ordered⟩ : ∃ c, selectionOf sel = some c ∧ s.visits.ordered c = order := by
      rcases choice with ⟨rfl, rfl⟩ | ⟨rfl, rfl⟩ | ⟨rfl, rfl⟩
      · exact ⟨.full, rfl, rfl⟩
      · exact ⟨.near, rfl, rfl⟩
      · exact ⟨.both, rfl, rfl⟩
    have taken := serve_of_requests ownReadVisitList asks long
    rw [ownReadVisitList_of_good (sel := c) (by rw [selRead, code]) (by rw [startRead, maximumRead]; omega), startRead, maximumRead,
      State.packWindow_eq (visitListSound_dropRequest visits)] at taken
    refine ⟨rankedWindow order start maximum, rfl, ?_⟩
    rw [← ordered]
    exact taken

end Sys2Proof.Machine
